-- ==== Sys2Proof/Word.lean ====
section
/-! DEFINITION. The widths the BX4's data sheet counts in: bytes of the line, words of the host port, and the
numbers of queues and channels (00, Conventions). -/

namespace Sys2Proof

/-- A byte of the line side (00, Numbers). -/
abbrev Byte := BitVec 8

/-- A word of the host port (00, Numbers). -/
abbrev Word := BitVec 16

/-- A receive queue, 0..15. -/
abbrev RxQueueId := Fin 16

/-- A transmit queue, 0..3. -/
abbrev TxQueueId := Fin 4

/-- A channel, 0..63. -/
abbrev ChannelId := Fin 64

end Sys2Proof
end

