-- ==== Sys2Proof/Syntax.lean ====
section
/-! DEFINITION. The commands of the block: one constructor for each row of the table of operations and events
(95). A command of the command unit is the write of its code to CMD and takes its operands from OPA..OPH in State
(R156), so its constructor carries none; log 27 says which operands the other rows carry. -/

namespace Sys2Proof

/-- How a data port access reaches the block: a bus cycle at the address of DATA, or an access with HDACK_N
asserted (R108). -/
inductive PortAccess where
  | processor
  | dma
deriving DecidableEq, Repr

/-- A step of the BX4 (95). -/
inductive Instr where
  -- time
  | tclkEdge
  | coarseBoundary
  | startTimeReached (q : RxQueueId)
  | stopTimeReached (q : RxQueueId)
  | launchTimeReached (t : TxQueueId) (place : Fin 64)
  | deadlineExpiry
  -- line
  | lineByte (data : Byte) (sop eop err : Bool)
  | ltrdy
  | ltabt
  -- reset and supply
  | hardwareReset
  | powerUp
  -- host port
  | dataPortRead (via : PortAccess)
  | dataPortWrite (via : PortAccess) (value : Word)
  | timeCHiRead
  | evtStatusWrite (value : Word)
  | evtEnableWrite (value : Word)
  | qEventsWrite (value : Word)
  | winStatusWrite (value : Word)
  | winCtrlWrite (value : Word)
  | stgStatusWrite (value : Word)
  | cmdStatusWrite (value : Word)
  | registerWrite (addr : BitVec 6) (value : Word)
  -- writes of a code to CMD
  | timeSet
  | timeDivisor
  | timeAdjust
  | refPop
  | poolConfig
  | lineRx
  | chWrite
  | chRead
  | chSeqReset
  | txSeqSet
  | rxConfig
  | rxWindow
  | rxEnable
  | rxDisable
  | rxRearm
  | rxAckBatch
  | rxResume
  | rxFlush
  | rxFlushRemoval (q : RxQueueId)
  | rxOpen
  | rxRelease
  | rxClose
  | txConfig
  | txBegin
  | txSubmit
  | txAbandon
  | txCancel
  | txPause
  | txStart
  | txFlush
  | txFlushRemoval (t : TxQueueId)
  | lineTx
  | reportPop
  | softReset
  | softResetRxRemoval (q : RxQueueId)
  | softResetTxRemoval (t : TxQueueId)
  | unknownCommand (code : Word)
  | resetNRelease
deriving DecidableEq, Repr

end Sys2Proof
end

