-- ==== Sys2Proof/Decode.lean ====
section
/-! DEFINITION. The rows of the table give no bits, so no word spells a row (log 20). The command codes that the
host writes to CMD are read here (12, Command Codes; R178). -/

namespace Sys2Proof

/-- The command codes (12, Command Codes). -/
def commandTable : List (Word × Instr) :=
  [(0x10, .timeSet), (0x11, .timeDivisor), (0x12, .timeAdjust), (0x13, .refPop), (0x18, .poolConfig),
   (0x20, .lineRx), (0x28, .chWrite), (0x29, .chRead), (0x2A, .chSeqReset), (0x2B, .txSeqSet)] ++
  [(0x30, .rxConfig), (0x31, .rxWindow), (0x32, .rxEnable), (0x33, .rxDisable), (0x34, .rxRearm),
   (0x35, .rxAckBatch), (0x36, .rxResume), (0x37, .rxFlush), (0x38, .rxOpen), (0x39, .rxRelease),
   (0x3A, .rxClose)] ++
  [(0x40, .txConfig), (0x41, .txBegin), (0x42, .txSubmit), (0x43, .txAbandon), (0x44, .txCancel),
   (0x45, .txPause), (0x46, .txStart), (0x47, .txFlush), (0x48, .lineTx), (0x50, .reportPop),
   (0x60, .softReset)]

/-- The command a code written to CMD names, if any. The whole word is compared: a code whose upper bits are not all
0 names no command (R178). -/
def commandOfCode (code : Word) : Option Instr := commandTable.lookup code

/-- The command a table word spells: none, since no row of the table gives bits (log 20). -/
def decodeTableWord (_nbits _w : Nat) : Option Instr := none

end Sys2Proof
end

