-- ==== Sys2Proof/Config.lean ====
section
/-! DEFINITION. The sizes the part fixes (00, Sizes Used Throughout). The spec leaves no value open, so there is no
free value here. -/

namespace Sys2Proof.Config

/-- Cells of the pool (00, Sizes; R18). -/
def cells : Nat := 1024

/-- Bytes of one cell (00, Sizes). -/
def cellBytes : Nat := 64

/-- Descriptors of the pool (00, Sizes; R18). -/
def descriptors : Nat := 512

/-- Places of the reference list (R14). -/
def referencePlaces : Nat := 8

/-- Places of the report queue (R150). -/
def reportPlaces : Nat := 32

/-- The word DEVICE_ID (12, Register Map). -/
def deviceId : Word := 0x4204

end Sys2Proof.Config
end

