-- ==== Sys2Proof/Machine/State.lean ====
section
/-! DEFINITION. The state of the BX4, block by block as the data sheet names the blocks (00, Blocks), and its value
after a hardware reset. An item that the sheet gives only in some state is an argument of that state (log 23). -/

namespace Sys2Proof.Machine

/-! ### Link time (01) -/

/-- Link time without its epoch: the pair (coarse, fine) that comparisons use (00, Link Time). -/
structure LinkTime where
  coarse : BitVec 32
  fine : BitVec 12
deriving DecidableEq, Repr

/-- A stamp: the triple (epoch, coarse, fine) (R10). -/
structure Stamp where
  epoch : BitVec 8
  time : LinkTime
deriving DecidableEq, Repr

/-- An entry of the reference list (01, Reference List; R13). -/
structure RefEntry where
  channel : ChannelId
  stamp : Stamp
  remoteCoarse : BitVec 32
  remoteFine : Word
deriving DecidableEq, Repr

/-- The link time base (01). `firstEdge` says that the TCLK edge taken next is the first edge of a coarse tick
(R3). -/
structure TimeBase where
  now : LinkTime
  epoch : BitVec 8
  divisor : BitVec 13
  pendingSet : Option (BitVec 32)
  pendingDivisor : Option (BitVec 13)
  slew : Int
  firstEdge : Bool
  refs : List RefEntry
  refOverwrites : BitVec 8
deriving DecidableEq, Repr

/-! ### Cell pool (02) -/

/-- The pool's counts and configuration (R18, R29). What each holder holds is computed from the holder (log 15). -/
structure Pool where
  freeCells : Nat
  freeDescs : Nat
  cellReserve : Nat
  descReserve : Nat
  lowThreshold : Nat
deriving DecidableEq, Repr

/-! ### Packets (03, 12 Link Header) -/

/-- The packet kinds the device accepts. UNDEFINED is not a kind the device accepts (R33). -/
inductive Kind where
  | data
  | time
  | control
deriving DecidableEq, Repr

/-- The fields read from the four header bytes (R33). -/
structure Header where
  channel : ChannelId
  kind : Kind
  marker : Bool
  sequence : BitVec 4
  length : Byte
deriving DecidableEq, Repr

/-! ### Channel table (04) -/

/-- A channel's action. -/
inductive Action where
  | drop
  | queue
deriving DecidableEq, Repr

/-- A policy of a channel entry. -/
inductive Policy where
  | keep
  | discard
deriving DecidableEq, Repr

/-- The seven configuration fields of a channel entry (04, The Channel Entry). -/
structure ChannelConfig where
  action : Action
  queue : RxQueueId
  errored : Policy
  check : Policy
  duplicate : Policy
  sequenceCheck : Bool
  reference : Bool
deriving DecidableEq, Repr

/-- A channel entry: its configuration and the two items the classifier keeps (04, The Channel Entry). -/
structure ChannelEntry where
  config : ChannelConfig
  lastSequence : Option (BitVec 4)
  duplicatesDropped : BitVec 8
deriving DecidableEq, Repr

/-! ### Receive framer (03) -/

/-- The verdict at the header (R41). -/
inductive Verdict where
  | unrouted
  | duplicateDropped
  | refused
  | loss
  | admitted
deriving DecidableEq, Repr

/-- The in-flight packet record while fewer than four header bytes have been taken (03, Framer State). -/
structure HeaderPacket where
  stamp : Stamp
  arrival : Word
  bytes : List Byte
  lineError : Bool
  crc : Word
deriving DecidableEq, Repr

/-- The in-flight packet record after its header was classified (03, Framer State). `storage` holds the payload bytes
written so far when the pool granted a reservation; the reservation is ceil(L/64) cells and one descriptor. `gap` is
the gap size, present with SEQ_GAP (R58). -/
structure BodyPacket where
  stamp : Stamp
  arrival : Word
  bytes : List Byte
  header : Header
  snapshot : ChannelEntry
  verdict : Verdict
  duplicate : Bool
  gap : Option (BitVec 4)
  count : Nat
  crc : Word
  trailer : List Byte
  lineError : Bool
  storage : Option (List Byte)
  kept : List Byte
deriving DecidableEq, Repr

/-- The receive framer states; the in-flight packet record is present in HEADER and BODY (03, Framer State). -/
inductive RxFramerState where
  | hunt
  | header (p : HeaderPacket)
  | body (p : BodyPacket)
  | discard
deriving DecidableEq, Repr

/-- The receive framer (03). -/
structure RxFramer where
  state : RxFramerState
  lineRx : Bool
  packetsSeen : Word
  headerErrors : Word
  strayBytes : Word
  unrouted : Word
deriving DecidableEq, Repr

/-! ### Receive queues (05) -/

/-- The flags of a receive record (05, The Receive Record). -/
structure RecordFlags where
  lineError : Bool
  checkFail : Bool
  truncated : Bool
  earlyStart : Bool
  overlong : Bool
  duplicate : Bool
deriving DecidableEq, Repr

/-- A committed receive record (05, The Receive Record). SEQ_GAP is the presence of `gap`. The stored length is the
number of payload bytes. -/
structure RxRecord where
  queue : RxQueueId
  header : Header
  stamp : Stamp
  flags : RecordFlags
  gap : Option (BitVec 4)
  lossBefore : Word
  arrival : Word
  payload : List Byte
deriving DecidableEq, Repr

/-- Capture modes (R72). -/
inductive RxMode where
  | continuous
  | singleBatch
  | relayBatch
deriving DecidableEq, Repr

/-- Overrun policies (R85). -/
inductive Overrun where
  | drop
  | hold
deriving DecidableEq, Repr

/-- Start conditions (R73). -/
inductive StartCondition where
  | now
  | atTime (t : LinkTime)
  | atMarker
deriving DecidableEq, Repr

/-- Stop causes (05, The Queue Record). -/
inductive StopCause where
  | batchDone
  | relayMissed
  | windowEnd
deriving DecidableEq, Repr

/-- The two states that capture, as a HELD queue remembers them (05, The Queue Record). -/
inductive Capturing where
  | run
  | grace
deriving DecidableEq, Repr

/-- The states of a receive queue, with the stop cause in STOPPED and the state before hold in HELD (05, The Queue
Record). -/
inductive RxQueueState where
  | off
  | pending
  | run
  | grace
  | stopped (cause : StopCause)
  | held (before : Capturing)
deriving DecidableEq, Repr

/-- What RX_CONFIG writes (R72). -/
structure RxConfig where
  mode : RxMode
  batchSize : Word
  overrun : Overrun
  quota : Nat
  watermark : Nat
deriving DecidableEq, Repr

/-- What RX_WINDOW writes (R73). -/
structure RxWindow where
  start : StartCondition
  stop : Option LinkTime
deriving DecidableEq, Repr

/-- A receive queue (05, The Queue Record). `events` holds the event set in its Q_EVENTS positions. -/
structure RxQueue where
  state : RxQueueState
  flush : Bool
  config : RxConfig
  window : RxWindow
  batchCount : Word
  batchComplete : Bool
  pendingLoss : Word
  admitted : BitVec 32
  lost : BitVec 32
  refused : BitVec 32
  rejected : BitVec 32
  records : List RxRecord
  events : BitVec 6
deriving DecidableEq, Repr

/-! ### Read window (06) -/

/-- The DMA directions (R107). -/
inductive DmaDirection where
  | rx
  | tx
deriving DecidableEq, Repr

/-- What the read window holds while it is OPEN: the queue whose head is the open record, and the read offset (06,
Window State). -/
structure OpenRecord where
  queue : RxQueueId
  offset : Nat
deriving DecidableEq, Repr

/-- The read window: CLOSED is `none` (06, Window State). -/
structure ReadWindow where
  record : Option OpenRecord
  readPastEnd : Bool
  noWindowRead : Bool
  direction : DmaDirection
deriving DecidableEq, Repr

/-! ### Transmit staging and queues (07) -/

/-- The staging record while OPEN (07, The Staging Record). An absent launch is an immediate one. The write offset is
the number of payload bytes written. -/
structure StagingRecord where
  queue : TxQueueId
  channel : ChannelId
  kind : Kind
  marker : Bool
  insertTime : Bool
  length : Byte
  launch : Option LinkTime
  tag : Word
  payload : List Byte
deriving DecidableEq, Repr

/-- Staging: CLOSED is `none` (07, The Staging Record). -/
structure Staging where
  record : Option StagingRecord
  writePastEnd : Bool
  noWindowWrite : Bool
deriving DecidableEq, Repr

/-- An entry of a transmit queue (07, The Transmit Queue; 08, Framer State). `due` is the property R131 keeps with
the entry. -/
structure TxEntry where
  channel : ChannelId
  kind : Kind
  marker : Bool
  insertTime : Bool
  length : Byte
  launch : Option LinkTime
  tag : Word
  payload : List Byte
  due : Bool
  attempts : Nat
  sequenceUsed : Option (BitVec 4)
  startStamp : Option Stamp
deriving DecidableEq, Repr

/-- Late policies (07, The Transmit Queue). -/
inductive LatePolicy where
  | sendLate
  | dropLate
deriving DecidableEq, Repr

/-- What TX_CONFIG writes (R120). -/
structure TxConfig where
  depth : Nat
  tolerance : Word
  late : LatePolicy
  retryLimit : Nat
deriving DecidableEq, Repr

/-- A transmit queue (07, The Transmit Queue). -/
structure TxQueue where
  paused : Bool
  flush : Bool
  config : TxConfig
  entries : List TxEntry
deriving DecidableEq, Repr

/-! ### Transmit framer (08) -/

/-- The attempt of an entry in SENDING: its queue, the byte position from 1, whether its first byte was accepted, the
running trailer check, and cut (08, Framer State). -/
structure Attempt where
  queue : TxQueueId
  position : Nat
  firstAccepted : Bool
  crc : Word
  cut : Bool
deriving DecidableEq, Repr

/-- The transmit framer states. The in-flight entry is the head of the queue named (R130); WAITING_LINE also says
whether its deadline watcher is armed (R135), and whether a set has moved link time backward since it was armed, which
R12's release of a saturated deadline asks for (log 9). -/
inductive TxFramerState where
  | idle
  | waitingLine (queue : TxQueueId) (deadlineArmed : Bool) (setBack : Bool)
  | sending (a : Attempt)
deriving DecidableEq, Repr

/-- The transmit framer (08). -/
structure TxFramer where
  state : TxFramerState
  lineTx : Bool
deriving DecidableEq, Repr

/-! ### Report queue (09) -/

/-- The results a report carries (09, The Report). -/
inductive ReportResult where
  | sent
  | sentLate
  | lateDropped
  | aborted
  | cancelled
  | flushed
deriving DecidableEq, Repr

/-- A report (09, The Report). -/
structure Report where
  tag : Word
  queue : TxQueueId
  channel : ChannelId
  result : ReportResult
  attempts : Nat
  sequenceUsed : Option (BitVec 4)
  startStamp : Option Stamp
deriving DecidableEq, Repr

/-- The report queue (09). -/
structure ReportQueue where
  list : List Report
  lost : Word
deriving DecidableEq, Repr

/-! ### Command unit (10) -/

/-- The eight operand words OPA..OPH (10, State of the Command Unit). -/
structure Operands where
  a : Word
  b : Word
  c : Word
  d : Word
  e : Word
  f : Word
  g : Word
  h : Word
deriving DecidableEq, Repr

/-- A running long command, with the queue it works on (R158). -/
inductive LongCommand where
  | rxFlush (q : RxQueueId)
  | txFlush (t : TxQueueId)
  | softReset
deriving DecidableEq, Repr

/-- The result codes (10, Result Codes). -/
inductive Result where
  | ok
  | unknown
  | badArg
  | wrongState
  | noSpace
  | queueFull
  | order
  | incomplete
  | notFound
  | inFlight
  | windowBusy
  | noWindow
  | noRecord
  | timeBusy
  | empty
deriving DecidableEq, Repr

/-- The command unit; it is BUSY exactly while a command is running (R158). -/
structure CommandUnit where
  operands : Operands
  latch : Operands
  running : Option LongCommand
  last : Option Word
  result : Result
  refused : Bool
deriving DecidableEq, Repr

/-! ### Interrupt unit and host port (11, 12) -/

/-- The sticky events and the enables, in the EVT_STATUS positions (11; 12, Register Map). RXQ_ATTN is a level and is
not stored. -/
structure InterruptUnit where
  status : BitVec 12
  enable : BitVec 12
deriving DecidableEq, Repr

/-- The host port: the time snapshot, the selectors (R175, R176, R177) and the word the last acting read drove
(log 3). -/
structure HostPort where
  snapshot : Stamp
  qsel : RxQueueId
  tsel : TxQueueId
  auxSel : BitVec 6
  lastRead : Option Word
deriving DecidableEq, Repr

/-! ### The whole device -/

/-- The state of the BX4. `inReset` says that RESET_N is asserted (R174). `pending` is the queue of the commands that
are waiting, first in, first out. -/
structure State where
  inReset : Bool
  time : TimeBase
  pool : Pool
  rxf : RxFramer
  channels : Vector ChannelEntry 64
  txSequence : Vector (BitVec 4) 64
  rxq : Vector RxQueue 16
  window : ReadWindow
  staging : Staging
  txq : Vector TxQueue 4
  txf : TxFramer
  reports : ReportQueue
  cmd : CommandUnit
  irq : InterruptUnit
  host : HostPort
  pending : List Instr
deriving DecidableEq, Repr

/-- The block has no fault: whatever a command finds, the spec gives a result code, an event or a flag, and the device
goes on (R157). So there is no constructor, and nothing raises one. Safe. -/
inductive Fault where
deriving DecidableEq, Repr

/-- Why a command has no meaning. -/
inductive Refusal where
  /-- Raised only by an arm of `exec` whose command has no meaning yet. Safe. No arm raises it now. -/
  | notModelled (mnemonic : String)
deriving DecidableEq, Repr

/-! ### Hardware reset values -/

/-- Link time 0:0. -/
def LinkTime.zero : LinkTime := ⟨0, 0⟩

/-- The time base after hardware reset (R17). -/
def TimeBase.reset : TimeBase :=
  { now := LinkTime.zero, epoch := 0, divisor := 1000, pendingSet := none, pendingDivisor := none, slew := 0,
    firstEdge := true, refs := [], refOverwrites := 0 }

/-- The pool after hardware reset (R31). -/
def Pool.reset : Pool :=
  { freeCells := Config.cells, freeDescs := Config.descriptors, cellReserve := 64, descReserve := 16,
    lowThreshold := 128 }

/-- The receive framer after hardware reset (R52). -/
def RxFramer.reset : RxFramer :=
  { state := .hunt, lineRx := false, packetsSeen := 0, headerErrors := 0, strayBytes := 0, unrouted := 0 }

/-- A channel entry after hardware reset (R69). -/
def ChannelEntry.reset : ChannelEntry :=
  { config := { action := .drop, queue := 0, errored := .keep, check := .keep, duplicate := .keep,
                sequenceCheck := false, reference := false },
    lastSequence := none, duplicatesDropped := 0 }

/-- A receive queue after hardware reset (R96). -/
def RxQueue.reset : RxQueue :=
  { state := .off, flush := false,
    config := { mode := .continuous, batchSize := 1, overrun := .drop, quota := 64, watermark := 8 },
    window := { start := .now, stop := none },
    batchCount := 0, batchComplete := false, pendingLoss := 0, admitted := 0, lost := 0, refused := 0, rejected := 0,
    records := [], events := 0 }

/-- The read window after hardware reset (R110). -/
def ReadWindow.reset : ReadWindow :=
  { record := none, readPastEnd := false, noWindowRead := false, direction := .rx }

/-- Staging after hardware reset (R129). -/
def Staging.reset : Staging :=
  { record := none, writePastEnd := false, noWindowWrite := false }

/-- A transmit queue after hardware reset (R129). -/
def TxQueue.reset : TxQueue :=
  { paused := false, flush := false,
    config := { depth := 16, tolerance := 0, late := .sendLate, retryLimit := 3 }, entries := [] }

/-- The transmit framer after hardware reset (R148). -/
def TxFramer.reset : TxFramer := { state := .idle, lineTx := false }

/-- The report queue after hardware reset (R155). -/
def ReportQueue.reset : ReportQueue := { list := [], lost := 0 }

/-- Operand words all 0 (R165). -/
def Operands.zero : Operands := ⟨0, 0, 0, 0, 0, 0, 0, 0⟩

/-- The command unit after hardware reset (R165). -/
def CommandUnit.reset : CommandUnit :=
  { operands := Operands.zero, latch := Operands.zero, running := none, last := none, result := .ok,
    refused := false }

/-- The interrupt unit after hardware reset (R172). -/
def InterruptUnit.reset : InterruptUnit := { status := 0, enable := 0 }

/-- The host port after hardware reset (R175, R176, R177); HD15..HD0 are high-impedance (R174). -/
def HostPort.reset : HostPort :=
  { snapshot := ⟨0, LinkTime.zero⟩, qsel := 0, tsel := 0, auxSel := 0, lastRead := none }

/-- Every block in its hardware-reset state (R174), with RESET_N at the level given and the waiting commands given:
the queue is the model's own and is not the device's (log 17). -/
def State.hardwareReset (held : Bool) (waiting : List Instr) : State :=
  { inReset := held, time := TimeBase.reset, pool := Pool.reset, rxf := RxFramer.reset,
    channels := Vector.replicate 64 ChannelEntry.reset, txSequence := Vector.replicate 64 0,
    rxq := Vector.replicate 16 RxQueue.reset, window := ReadWindow.reset, staging := Staging.reset,
    txq := Vector.replicate 4 TxQueue.reset, txf := TxFramer.reset, reports := ReportQueue.reset,
    cmd := CommandUnit.reset, irq := InterruptUnit.reset, host := HostPort.reset, pending := waiting }

/-- The machine right after reset: every block in its hardware-reset state, RESET_N released (R174; log 1), and no
command waiting. -/
def State.reset : State := State.hardwareReset false []

end Sys2Proof.Machine
end

