-- ==== Sys2Proof/Machine/Flags.lean ====
section
/-! DEFINITION. The sticky events: the global event status, the receive queues' event sets, and what follows from them
at once (RXQ_ATTN, the attention summary, HINT_N) (11; 05, Watermark, Events and Counters). -/

namespace Sys2Proof.Machine

/-- The eleven sticky events of the global event status (11, The Global Event Status). -/
inductive Event where
  | cmdDone
  | cmdRefused
  | refNew
  | refOverwrite
  | timeApplied
  | slewDone
  | hdrError
  | poolLow
  | reportReady
  | reportLost
  | windowLost
deriving DecidableEq, Repr

/-- The EVT_STATUS position of an event (12, Register Map). -/
def Event.position : Event → Nat
  | .cmdDone => 0
  | .cmdRefused => 1
  | .refNew => 3
  | .refOverwrite => 4
  | .timeApplied => 5
  | .slewDone => 6
  | .hdrError => 7
  | .poolLow => 8
  | .reportReady => 9
  | .reportLost => 10
  | .windowLost => 11

/-- An event alone in its EVT_STATUS position. -/
def Event.mask (e : Event) : BitVec 12 := 1#12 <<< e.position

/-- The EVT_STATUS position of the level RXQ_ATTN (12, Register Map). -/
def rxqAttnMask : BitVec 12 := 1#12 <<< 2

/-- Raising an event sets it; if it is set already it stays set (R166). -/
def State.raise (s : State) (e : Event) : State :=
  { s with irq := { s.irq with status := s.irq.status ||| e.mask } }

/-- Raise an event if the condition holds. -/
def State.raiseIf (s : State) (c : Bool) (e : Event) : State := if c then s.raise e else s

/-- A write of ones to a write-one-to-clear word clears the flags written with a one and keeps the others (R173). -/
def clearOnes {w : Nat} (flags : BitVec w) (value : Word) : BitVec w := flags &&& ~~~(value.setWidth w)

/-- A sticky flag in position `bit` of a word that clears on a one (R173). -/
def clearFlag (flag : Bool) (value : Word) (bit : Nat) : Bool := flag && !value.getLsbD bit

/-- The events of a receive queue's event set (R89). -/
inductive QueueEvent where
  | started
  | watermark
  | batchDone
  | loss
  | hold
  | stopped
deriving DecidableEq, Repr

/-- The Q_EVENTS position of a queue event (12, Register Map). -/
def QueueEvent.position : QueueEvent → Nat
  | .started => 0
  | .watermark => 1
  | .batchDone => 2
  | .loss => 3
  | .hold => 4
  | .stopped => 5

/-- A queue event alone in its Q_EVENTS position. -/
def QueueEvent.mask (e : QueueEvent) : BitVec 6 := 1#6 <<< e.position

/-- An event joins the queue's event set; one already there stays, once (R89). -/
def RxQueue.raise (r : RxQueue) (e : QueueEvent) : RxQueue := { r with events := r.events ||| e.mask }

/-- Raise a queue event if the condition holds. -/
def RxQueue.raiseIf (r : RxQueue) (c : Bool) (e : QueueEvent) : RxQueue := if c then r.raise e else r

/-- The event set of the queue is not empty. -/
def RxQueue.hasEvents (r : RxQueue) : Bool := r.events != 0

/-- RXQ_ATTN: the event set of at least one receive queue is not empty (R167). -/
def State.rxqAttn (s : State) : Bool := s.rxq.toList.any RxQueue.hasEvents

/-- The global event status as it is read: the sticky events and the RXQ_ATTN level (R166). -/
def State.eventStatus (s : State) : BitVec 12 :=
  (s.irq.status &&& ~~~rxqAttnMask) ||| (if s.rxqAttn then rxqAttnMask else 0)

/-- HINT_N is asserted while at least one indication stands and has its enable set, and RESET_N is released (R168,
R172). -/
def State.hintAsserted (s : State) : Bool := !s.inReset && (s.eventStatus &&& s.irq.enable) != 0

end Sys2Proof.Machine
end

