-- ==== Sys2Proof/Machine/LinkTime.lean ====
section
/-! DEFINITION. Comparing link times, what it means for link time to reach or pass a value, and saturating sums
(00, Link Time; R11, R12). -/

namespace Sys2Proof.Machine

/-- `a` is below `b`: lexicographic and unsigned on (coarse, fine); epochs take no part (00, Link Time). -/
def LinkTime.before (a b : LinkTime) : Bool :=
  decide (a.coarse < b.coarse) || (a.coarse == b.coarse && decide (a.fine < b.fine))

/-- The time is already reached when the counter is equal to or above it (R11). -/
def LinkTime.reachedAt (t now : LinkTime) : Bool := !now.before t

/-- A change of the counter from `old` to `new` reaches `t` (R11). -/
def LinkTime.reachedBy (t old new : LinkTime) : Bool := old.before t && t.reachedAt new

/-- The value sums saturate at, 4294967295:4095 (R12). -/
def LinkTime.last : LinkTime := ⟨BitVec.allOnes 32, BitVec.allOnes 12⟩

/-- A number of coarse ticks added to a time, with saturation (R12). -/
def LinkTime.addTicks (t : LinkTime) (n : Word) : LinkTime :=
  if t.coarse.toNat + n.toNat ≤ 4294967295 then ⟨t.coarse + n.setWidth 32, t.fine⟩ else .last

/-- The time one fine unit later (R12). -/
def LinkTime.oneLater (t : LinkTime) : LinkTime :=
  if t.fine != BitVec.allOnes 12 then ⟨t.coarse, t.fine + 1⟩
  else if t.coarse != BitVec.allOnes 32 then ⟨t.coarse + 1, 0⟩
  else .last

/-- The counter stands above `t`, so that link time has passed it (R12). -/
def LinkTime.passedAt (t now : LinkTime) : Bool := t.before now

/-- A change of the counter passes `t`: it reaches the time one fine unit later than `t`, and leaves the counter
strictly above `t`, so that the saturated value is never passed (R12). -/
def LinkTime.passedBy (t old new : LinkTime) : Bool := t.oneLater.reachedBy old new && t.passedAt new

/-- A change of the counter releases a watcher that waits to pass `t`: it passes `t`, or, after a set has moved link time
backward since the watcher was armed, it reaches the watcher's time, the one fine unit later (R12). The two differ at the
saturated value alone, whose time one fine unit later is that value; log 9 says how the last clause of R12 is read, and
that such a release is no expiry. -/
def LinkTime.releasedBy (t old new : LinkTime) (setBack : Bool) : Bool :=
  t.passedBy old new || (setBack && t.oneLater.reachedBy old new)

/-- A watcher that waits to pass `t` has been answered at `now`: link time stands above `t`, or, after a backward set, at
or above the watcher's time (R12; log 9). -/
def LinkTime.releasedAt (t now : LinkTime) (setBack : Bool) : Bool :=
  t.passedAt now || (setBack && t.oneLater.reachedAt now)

/-- The stamp of the present moment (R10). -/
def TimeBase.stamp (b : TimeBase) : Stamp := ⟨b.epoch, b.now⟩

end Sys2Proof.Machine
end

