-- ==== Sys2Proof/Machine/Ops.lean ====
section
/-! DEFINITION. The operations every family shares: counters, access to the tables and queues, the pool's
reservations and returns (02), and appending a report (09). -/

namespace Sys2Proof.Machine

/-! ### Counters (00, Counters) -/

/-- A saturating counter advances by one and stays at its maximum (00, Counters). -/
def satInc {w : Nat} (x : BitVec w) : BitVec w := if x = BitVec.allOnes w then x else x + 1

/-! ### Tables and queues -/

/-- The entry of a channel. -/
def State.channel (s : State) (c : ChannelId) : ChannelEntry := s.channels[c.val]'c.isLt

/-- Replace the entry of a channel. -/
def State.setChannel (s : State) (c : ChannelId) (e : ChannelEntry) : State :=
  { s with channels := s.channels.set c.val e c.isLt }

/-- The transmit sequence value of a channel (04, Transmit Sequence Table). -/
def State.txSequenceOf (s : State) (c : ChannelId) : BitVec 4 := s.txSequence[c.val]'c.isLt

/-- Write one value of the transmit sequence table. -/
def State.setTxSequence (s : State) (c : ChannelId) (v : BitVec 4) : State :=
  { s with txSequence := s.txSequence.set c.val v c.isLt }

/-- A receive queue. -/
def State.rxQueue (s : State) (q : RxQueueId) : RxQueue := s.rxq[q.val]'q.isLt

/-- Replace a receive queue. -/
def State.setRxQueue (s : State) (q : RxQueueId) (r : RxQueue) : State :=
  { s with rxq := s.rxq.set q.val r q.isLt }

/-- A transmit queue. -/
def State.txQueue (s : State) (t : TxQueueId) : TxQueue := s.txq[t.val]'t.isLt

/-- Replace a transmit queue. -/
def State.setTxQueue (s : State) (t : TxQueueId) (x : TxQueue) : State :=
  { s with txq := s.txq.set t.val x t.isLt }

/-- Put the transmit framer in a state. -/
def State.setTxFramer (s : State) (f : TxFramerState) : State := { s with txf := { s.txf with state := f } }

/-- Put the receive framer in a state. -/
def State.setRxFramer (s : State) (f : RxFramerState) : State := { s with rxf := { s.rxf with state := f } }

/-! ### What the holders hold (R18, R19, R71) -/

/-- Cells for a number of payload bytes: ceil(n/64) (R19). -/
def cellsFor (n : Nat) : Nat := (n + (Config.cellBytes - 1)) / Config.cellBytes

/-- The stored length of a record: the payload bytes it holds (05, The Receive Record). -/
def RxRecord.storedLength (r : RxRecord) : Nat := r.payload.length

/-- The cells a committed record holds (05, The Receive Record). -/
def RxRecord.cells (r : RxRecord) : Nat := cellsFor r.storedLength

/-- The cell count of a receive queue (R71). -/
def RxQueue.cellCount (r : RxQueue) : Nat := (r.records.map RxRecord.cells).sum

/-- The record count of a receive queue (R71). -/
def RxQueue.recordCount (r : RxQueue) : Nat := r.records.length

/-- The cells an entry holds (R19). -/
def TxEntry.cells (e : TxEntry) : Nat := cellsFor e.length.toNat

/-- The cell count of a transmit queue. -/
def TxQueue.cellCount (x : TxQueue) : Nat := (x.entries.map TxEntry.cells).sum

/-- The cells the staging record holds (R24). -/
def StagingRecord.cells (r : StagingRecord) : Nat := cellsFor r.length.toNat

/-- The cells reserved for the packet being received (R19). -/
def BodyPacket.reservedCells (p : BodyPacket) : Nat := cellsFor p.header.length.toNat

/-- The number of the filling receive record: its cells, if it exists (R21, R30). -/
def State.fillingCells (s : State) : Option Nat :=
  match s.rxf.state with
  | .body p => p.storage.map fun _ => p.reservedCells
  | _ => none

/-! ### The pool (02) -/

/-- Why the pool refuses a receive reservation (R20). -/
inductive PoolRefusal where
  | noDescriptor
  | quota
  | noCells
deriving DecidableEq, Repr

/-- The three conditions of a receive reservation, in their order; none is a grant. The differences are signed, so
each condition is written as a sum. A reservation of no cells passes the second and the third whatever the counts, the
free cells below the reserve included: R20 says so of L = 0. -/
def rxReservationRefusal (p : Pool) (queueCells quota cells : Nat) : Option PoolRefusal :=
  if p.freeDescs < p.descReserve + 1 then some .noDescriptor
  else if cells ≠ 0 ∧ quota < queueCells + cells then some .quota
  else if cells ≠ 0 ∧ p.freeCells < p.cellReserve + cells then some .noCells
  else none

/-- A transmit reservation is granted when a descriptor and the cells are free; reserve and quota do not apply
(R24). -/
def txReservationGranted (p : Pool) (cells : Nat) : Bool := decide (1 ≤ p.freeDescs) && decide (cells ≤ p.freeCells)

/-- A grant takes one descriptor and the cells, and raises POOL_LOW when the free cells go from at or above the
threshold to below it (R21, R24, R28). -/
def State.takeReservation (s : State) (cells : Nat) : State :=
  let left := s.pool.freeCells - cells
  { s with pool := { s.pool with freeCells := left, freeDescs := s.pool.freeDescs - 1 } }.raiseIf
    (decide (s.pool.lowThreshold ≤ s.pool.freeCells) && decide (left < s.pool.lowThreshold)) .poolLow

/-- A return of cells alone: the truncation return (R23). -/
def State.returnCells (s : State) (cells : Nat) : State :=
  { s with pool := { s.pool with freeCells := s.pool.freeCells + cells } }

/-- A return of one descriptor and the cells a holder held (R26, R27). -/
def State.returnHolder (s : State) (cells : Nat) : State :=
  { s with pool := { s.pool with freeCells := s.pool.freeCells + cells, freeDescs := s.pool.freeDescs + 1 } }

/-! ### Reports (09) -/

/-- The report of an entry that leaves transmit queue `t` (R149). -/
def reportOf (t : TxQueueId) (e : TxEntry) (r : ReportResult) : Report :=
  { tag := e.tag, queue := t, channel := e.channel, result := r, attempts := e.attempts,
    sequenceUsed := e.sequenceUsed, startStamp := e.startStamp }

/-- A report is handed to the report queue: it joins the tail, or is lost and counted when the list is full (R150,
R151). -/
def State.appendReport (s : State) (r : Report) : State :=
  if s.reports.list.length < Config.reportPlaces then
    { s with reports := { s.reports with list := s.reports.list ++ [r] } }.raiseIf s.reports.list.isEmpty .reportReady
  else
    { s with reports := { s.reports with lost := s.reports.lost + 1 } }.raise .reportLost

/-! ### Reset -/

/-- While RESET_N is asserted, everything is ignored (R174). -/
def State.unlessReset (s : State) (f : State → State) : State := if s.inReset then s else f s

end Sys2Proof.Machine
end

