-- ==== Sys2Proof/Machine/CommandUnit.lean ====
section
/-! DEFINITION. The command unit (10): what a write to CMD does before and after its owner acts, and how a long
command completes. -/

namespace Sys2Proof.Machine

/-- The unit is BUSY while a long command runs (R158). -/
def State.busy (s : State) : Bool := s.cmd.running.isSome

/-- A write to CMD taken while BUSY is refused (R159). -/
def State.refuseCommand (s : State) : State :=
  { s with cmd := { s.cmd with refused := true } }.raise .cmdRefused

/-- Acceptance: the operand words are copied into the latch and last command takes the code (R156). -/
def State.acceptCommand (s : State) (code : Word) : State :=
  { s with cmd := { s.cmd with latch := s.cmd.operands, last := some code } }

/-- Completion: RESULT takes the result and CMD_DONE is raised (R157, R158). -/
def State.completeCommand (s : State) (r : Result) : State :=
  { s with cmd := { s.cmd with result := r } }.raise .cmdDone

/-- A short command: what its owner makes of the latched operands, in the same change as its acceptance (R157). The
owner answers the state it leaves and the result. Nothing happens while RESET_N is asserted (R174). -/
def shortCommand (code : Word) (owner : Operands → State → State × Result) (s : State) : State :=
  s.unlessReset fun s =>
    if s.busy then s.refuseCommand
    else
      let taken := s.acceptCommand code
      let done := owner taken.cmd.latch taken
      done.1.completeCommand done.2

/-- A long command starts running (R158). -/
def State.startLong (s : State) (c : LongCommand) : State :=
  { s with cmd := { s.cmd with running := some c } }

/-- A long command completes: RESULT becomes OK, CMD_DONE is raised, and the unit returns to IDLE (R158). -/
def State.completeLong (s : State) : State :=
  { s with cmd := { s.cmd with running := none } }.completeCommand .ok

/-- Every cell and descriptor is free (R32, R164). -/
def State.poolEmpty (s : State) : Bool :=
  decide (s.pool.freeCells = Config.cells) && decide (s.pool.freeDescs = Config.descriptors)

/-- SOFT_RESET is in progress. -/
def State.softResetting (s : State) : Bool := decide (s.cmd.running = some .softReset)

/-- A running SOFT_RESET completes when the pool reports every cell and descriptor free (R164). -/
def State.completeSoftReset (s : State) : State :=
  if s.softResetting && s.poolEmpty then s.completeLong else s

end Sys2Proof.Machine
end

