-- ==== Sys2Proof/Machine/LinkPacket.lean ====
section
/-! DEFINITION. The link packet as the device reads and builds it: the header layout (12, Link Header), the header
check (R34, R138) and the trailer check (R35, R140). -/

namespace Sys2Proof.Machine

/-- One bit fed to the CRC register (R35). -/
def crcBit (crc : Word) (bit : Bool) : Word :=
  if bit != crc.msb then (crc <<< 1) ^^^ 0x1021 else crc <<< 1

/-- One byte fed to the CRC register, most significant bit first (R35). -/
def crcByte (crc : Word) (b : Byte) : Word :=
  [7, 6, 5, 4, 3, 2, 1, 0].foldl (fun c i => crcBit c (b.getLsbD i)) crc

/-- The value a CRC register starts at (R35, R136). -/
def crcStart : Word := 0xFFFF

/-- The header check: the complement of the sum of bytes 0..2 modulo 256 (R34). -/
def headerCheck (b0 b1 b2 : Byte) : Byte := ~~~(b0 + b1 + b2)

/-- The kind in bits 7..6 of header byte 0; UNDEFINED is none (12, Link Header; R33). -/
def kindOfBits (bits : BitVec 2) : Option Kind :=
  if bits = 0 then some .data else if bits = 1 then some .time else if bits = 2 then some .control else none

/-- The number of a kind (12, Link Header). -/
def Kind.bits : Kind → BitVec 2
  | .data => 0
  | .time => 1
  | .control => 2

/-- The number in the low six bits, as a channel (12, Link Header). -/
def channelOfByte (b : Byte) : ChannelId := ⟨b.toNat % 64, Nat.mod_lt _ (by decide)⟩

/-- The fields of a header whose kind is not UNDEFINED (R33; 12, Link Header). -/
def headerOf (b0 b1 b2 : Byte) : Option Header :=
  (kindOfBits (b0.extractLsb' 6 2)).map fun kind =>
    { channel := channelOfByte b0, kind := kind, marker := b1.getLsbD 4, sequence := b1.extractLsb' 0 4, length := b2 }

/-- The header judged at its completion: its fields if the check matches, the kind is not UNDEFINED and no header byte
carried LRERR; none is a header error (R40). -/
def judgeHeader (b0 b1 b2 b3 : Byte) (lineError : Bool) : Option Header :=
  if b3 = headerCheck b0 b1 b2 ∧ lineError = false then headerOf b0 b1 b2 else none

/-- The four header bytes of a packet sent (R138). -/
def headerBytes (h : Header) : List Byte :=
  let b0 : Byte := h.kind.bits ++ BitVec.ofNat 6 h.channel.val
  let b1 : Byte := (if h.marker then 0x10 else 0) ||| h.sequence.setWidth 8
  [b0, b1, h.length, headerCheck b0 b1 h.length]

/-- The expected total of a packet of declared length L: 4 + L + 2 bytes (R33, R138). -/
def expectedTotal (length : Byte) : Nat := 6 + length.toNat

/-- The two trailer bytes read as one value, the first the high byte (R35); none unless both were received. -/
def trailerValue : List Byte → Option Word
  | [hi, lo] => some (hi ++ lo)
  | _ => none

end Sys2Proof.Machine
end

