-- ==== Sys2Proof/Machine/Operands.lean ====
section
/-! DEFINITION. The operand words: which register word is which, and how each command reads its operands out of the
latch (10; 12, Packed Operands; R178). `none` is a value out of its range. -/

namespace Sys2Proof.Machine

/-! ### The operand words as registers (12, Register Map) -/

/-- Write one operand word, OPA being number 0; other numbers change nothing. -/
def Operands.put (o : Operands) (n : Nat) (v : Word) : Operands :=
  match n with
  | 0 => { o with a := v }
  | 1 => { o with b := v }
  | 2 => { o with c := v }
  | 3 => { o with d := v }
  | 4 => { o with e := v }
  | 5 => { o with f := v }
  | 6 => { o with g := v }
  | 7 => { o with h := v }
  | _ => o

/-- Read one operand word, OPA being number 0. -/
def Operands.get (o : Operands) (n : Nat) : Word :=
  match n with
  | 0 => o.a
  | 1 => o.b
  | 2 => o.c
  | 3 => o.d
  | 4 => o.e
  | 5 => o.f
  | 6 => o.g
  | 7 => o.h
  | _ => 0

/-! ### Operands that carry one number are taken whole (R178) -/

/-- A receive queue, 0..15. -/
def rxQueueArg (w : Word) : Option RxQueueId := if h : w.toNat < 16 then some ⟨w.toNat, h⟩ else none

/-- A transmit queue, 0..3. -/
def txQueueArg (w : Word) : Option TxQueueId := if h : w.toNat < 4 then some ⟨w.toNat, h⟩ else none

/-- A channel, 0..63. -/
def channelArg (w : Word) : Option ChannelId := if h : w.toNat < 64 then some ⟨w.toNat, h⟩ else none

/-- A choice of 0 or 1. -/
def choiceArg (w : Word) : Option Bool := if w = 0 then some false else if w = 1 then some true else none

/-- A number from `lo` to `hi`. -/
def numberArg (lo hi : Nat) (w : Word) : Option Nat :=
  if lo ≤ w.toNat ∧ w.toNat ≤ hi then some w.toNat else none

/-- A policy: 0 KEEP, 1 DISCARD (04, Commands to the Channel Table). -/
def policyArg (w : Word) : Option Policy := (choiceArg w).map fun b => if b then .discard else .keep

/-- An action: 0 DROP, 1 QUEUE (04, Commands to the Channel Table). -/
def actionArg (w : Word) : Option Action := (choiceArg w).map fun b => if b then .queue else .drop

/-- A declared length, 0..255 (R112). -/
def lengthArg (w : Word) : Option Byte := if w.toNat ≤ 255 then some (w.setWidth 8) else none

/-- A sequence value, 0..15 (R67). -/
def sequenceArg (w : Word) : Option (BitVec 4) := if w.toNat ≤ 15 then some (w.setWidth 4) else none

/-- A divisor, 4..4096 (R6). -/
def divisorArg (w : Word) : Option (BitVec 13) :=
  if 4 ≤ w.toNat ∧ w.toNat ≤ 4096 then some (w.setWidth 13) else none

/-- A coarse value in two words, upper and lower (R5). -/
def coarseArg (hi lo : Word) : BitVec 32 := hi ++ lo

/-- A time in three words; its fine part is 0..4095 (R73, R112). -/
def timeArg (hi lo fine : Word) : Option LinkTime :=
  if fine.toNat ≤ 4095 then some ⟨coarseArg hi lo, fine.setWidth 12⟩ else none

/-! ### Whole commands -/

/-- POOL_CONFIG: cell reserve, descriptor reserve and threshold (R29). -/
def poolArgs (o : Operands) : Option (Nat × Nat × Nat) := do
  let cells ← numberArg 0 1024 o.a
  let descs ← numberArg 0 512 o.b
  let low ← numberArg 0 1024 o.c
  return (cells, descs, low)

/-- CH_WRITE: the channel and the seven configuration fields (R53; 04, Commands to the Channel Table). -/
def channelWriteArgs (o : Operands) : Option (ChannelId × ChannelConfig) := do
  let channel ← channelArg o.a
  let action ← actionArg o.b
  let queue ← rxQueueArg o.c
  let errored ← policyArg o.d
  let check ← policyArg o.e
  let duplicate ← policyArg o.f
  let sequenceCheck ← choiceArg o.g
  let reference ← choiceArg o.h
  return (channel, { action, queue, errored, check, duplicate, sequenceCheck, reference })

/-- A choice as it is returned in an operand word. -/
def choiceWord (b : Bool) : Word := if b then 1 else 0

/-- A policy as it is returned in an operand word. -/
def Policy.word : Policy → Word
  | .keep => 0
  | .discard => 1

/-- An action as it is returned in an operand word. -/
def Action.word : Action → Word
  | .drop => 0
  | .queue => 1

/-- What CH_READ leaves in OPA..OPH (R54; 12, Packed Operands). -/
def channelReadWords (e : ChannelEntry) : Operands :=
  { a := (e.duplicatesDropped.setWidth 16 <<< 8) |||
      (match e.lastSequence with
       | some n => 0x10 ||| n.setWidth 16
       | none => 0)
    b := e.config.action.word
    c := BitVec.ofNat 16 e.config.queue.val
    d := e.config.errored.word
    e := e.config.check.word
    f := e.config.duplicate.word
    g := choiceWord e.config.sequenceCheck
    h := choiceWord e.config.reference }

/-- RX_CONFIG's mode: 0, 1 or 2 (R72). -/
def modeArg (w : Word) : Option RxMode :=
  if w = 0 then some .continuous else if w = 1 then some .singleBatch else if w = 2 then some .relayBatch else none

/-- RX_CONFIG: the queue and its capture configuration (R72). -/
def rxConfigArgs (o : Operands) : Option (RxQueueId × RxConfig) := do
  let q ← rxQueueArg o.a
  let mode ← modeArg o.b
  let size ← numberArg 1 65535 o.c
  let overrun ← choiceArg o.d
  let quota ← numberArg 0 1024 o.e
  let watermark ← numberArg 1 512 o.f
  return (q, { mode, batchSize := BitVec.ofNat 16 size, overrun := if overrun then .hold else .drop, quota, watermark })

/-- RX_WINDOW's start condition, bits 1..0 of OPB; the start time is taken only with AT_TIME (R73; 12, Packed
Operands). -/
def startArg (o : Operands) : Option StartCondition :=
  match (o.b.extractLsb' 0 2).toNat with
  | 0 => some .now
  | 1 => (timeArg o.c o.d o.e).map .atTime
  | 2 => some .atMarker
  | _ => none

/-- RX_WINDOW's stop time, present with bit 4 of OPB (R73; 12, Packed Operands). -/
def stopArg (o : Operands) : Option (Option LinkTime) :=
  if o.b.getLsbD 4 then (timeArg o.f o.g o.h).map some else some none

/-- RX_WINDOW: the queue and its window, by the first of its checks (R73). -/
def rxWindowArgs (o : Operands) : Option (RxQueueId × RxWindow) := do
  let q ← rxQueueArg o.a
  let start ← startArg o
  let stop ← stopArg o
  return (q, { start, stop })

/-- TX_CONFIG: the queue and its configuration (R120). -/
def txConfigArgs (o : Operands) : Option (TxQueueId × TxConfig) := do
  let t ← txQueueArg o.a
  let depth ← numberArg 1 64 o.b
  let late ← choiceArg o.d
  let retryLimit ← numberArg 0 7 o.e
  return (t, { depth, tolerance := o.c, late := if late then .dropLate else .sendLate, retryLimit })

/-- TX_BEGIN's launch: a launch time with bit 6 of OPC, else immediate (R112; 12, Packed Operands). -/
def launchArg (o : Operands) : Option (Option LinkTime) :=
  if o.c.getLsbD 6 then (timeArg o.e o.f o.g).map some else some none

/-- TX_BEGIN: the staging record it asks for, by the second of its checks (R112). -/
def txBeginArgs (o : Operands) : Option StagingRecord := do
  let queue ← txQueueArg o.a
  let channel ← channelArg o.b
  let kind ← kindOfBits (o.c.extractLsb' 0 2)
  let length ← lengthArg o.d
  let launch ← launchArg o
  return { queue, channel, kind, marker := o.c.getLsbD 4, insertTime := o.c.getLsbD 5, length, launch,
           tag := o.h, payload := [] }

end Sys2Proof.Machine
end

