-- ==== Sys2Proof/Machine/PoolConfig.lean ====
section
/-! DEFINITION. POOL_CONFIG (02, Configuration); the pool's reservations and returns stand in Machine/Ops.lean. -/

namespace Sys2Proof.Machine

/-- POOL_CONFIG at its owner: the three values change together, and POOL_LOW is raised when the free cells were at or
above the old threshold and are below the new one (R28, R29). -/
def poolConfigure (o : Operands) (s : State) : State × Result :=
  match poolArgs o with
  | none => (s, .badArg)
  | some (cells, descs, low) =>
    ({ s with pool := { s.pool with cellReserve := cells, descReserve := descs, lowThreshold := low } }.raiseIf
      (decide (s.pool.lowThreshold ≤ s.pool.freeCells) && decide (s.pool.freeCells < low)) .poolLow, .ok)

/-- POOL_CONFIG (R29). -/
def execPoolConfig (s : State) : Host.Outcome State Fault Refusal := .next (shortCommand 0x18 poolConfigure s)

end Sys2Proof.Machine
end

