-- ==== Sys2Proof/Machine/Reports.lean ====
section
/-! DEFINITION. REPORT_POP (09); appending a report stands in Machine/Ops.lean. -/

namespace Sys2Proof.Machine

/-- REPORT_POP at its owner: the oldest report leaves; no event is raised or cleared (R150, R153). -/
def reportPop (_ : Operands) (s : State) : State × Result :=
  match s.reports.list with
  | [] => (s, .empty)
  | _ :: rest => ({ s with reports := { s.reports with list := rest } }, .ok)

/-- REPORT_POP (R153). -/
def execReportPop (s : State) : Host.Outcome State Fault Refusal := .next (shortCommand 0x50 reportPop s)

end Sys2Proof.Machine
end

