-- ==== Sys2Proof/Machine/RxQueues.lean ====
section
/-! DEFINITION. The receive queues (05): what each event does to one queue, and the commands and removals that act on
them. -/

namespace Sys2Proof.Machine

/-! ### Events at one queue -/

/-- A header or an end refused by the queue (R60, R62, R90). -/
def RxQueue.refuse (r : RxQueue) : RxQueue := { r with refused := r.refused + 1 }

/-- An end discarded by a policy (R62, R90). -/
def RxQueue.reject (r : RxQueue) : RxQueue := { r with rejected := r.rejected + 1 }

/-- The queue becomes RUN and STARTED is raised (R60, R74, R76). -/
def RxQueue.startRunning (r : RxQueue) : RxQueue := { r with state := .run }.raise .started

/-- The queue goes STOPPED with a cause and STOPPED is raised (R77, R80, R81). -/
def RxQueue.stopWith (r : RxQueue) (c : StopCause) : RxQueue := { r with state := .stopped c }.raise .stopped

/-- Under HOLD a loss taken while the queue is RUN or GRACE sends it to HELD (R61, R85). -/
def RxQueue.holdOnLoss (r : RxQueue) : RxQueue :=
  match r.config.overrun, r.state with
  | .hold, .run => { r with state := .held .run }.raise .hold
  | .hold, .grace => { r with state := .held .grace }.raise .hold
  | _, _ => r

/-- A loss on the queue (R61). -/
def RxQueue.lose (r : RxQueue) : RxQueue :=
  ({ r with pendingLoss := satInc r.pendingLoss, lost := r.lost + 1 }.raise .loss).holdOnLoss

/-- The time of the start watcher, armed while the queue is PENDING with AT_TIME (05, Start and Stop in Link Time;
log 6). -/
def RxQueue.startWatched (r : RxQueue) : Option LinkTime :=
  match r.state, r.window.start with
  | .pending, .atTime t => some t
  | _, _ => none

/-- The time of the stop watcher, armed from RX_ENABLE until the queue is turned OFF (05, Start and Stop in Link Time;
log 6). -/
def RxQueue.stopWatched (r : RxQueue) : Option LinkTime :=
  match r.state with
  | .off => none
  | _ => r.window.stop

/-- What the queue does when link time reaches its stop time (R77). -/
def RxQueue.reachStop (r : RxQueue) : RxQueue :=
  match r.state with
  | .off => r
  | .stopped .windowEnd => r
  | _ => r.stopWith .windowEnd

/-- The queue's transitions at a change of the counter from `old` to `new`: start first, then stop (R76, R77, R78). -/
def RxQueue.timeChange (old new : LinkTime) (r : RxQueue) : RxQueue :=
  let started := match r.startWatched with
    | some t => if t.reachedBy old new then r.startRunning else r
    | none => r
  match started.stopWatched with
  | some t => if t.reachedBy old new then started.reachStop else started
  | none => started

/-- RX_ENABLE of an OFF queue (R74). -/
def RxQueue.enable (now : LinkTime) (r : RxQueue) : RxQueue :=
  let fresh := { r with batchCount := 0, batchComplete := false, pendingLoss := 0 }
  let entered := match fresh.window.start with
    | .now => fresh.startRunning
    | .atTime t => if t.reachedAt now then fresh.startRunning else { fresh with state := .pending }
    | .atMarker => { fresh with state := .pending }
  match entered.window.stop with
  | some t => if t.reachedAt now then entered.stopWith .windowEnd else entered
  | none => entered

/-- Batch accounting of a commit, by the mode, for a queue that is RUN or GRACE (R79, R80, R81). -/
def RxQueue.countBatch (r : RxQueue) : RxQueue :=
  let n := r.batchCount + 1
  let counted := { r with batchCount := n }
  match r.config.mode with
  | .continuous => counted
  | .singleBatch =>
    if n = r.config.batchSize then
      ({ counted with batchComplete := true }.raise .batchDone).stopWith .batchDone
    else counted
  | .relayBatch =>
    if n = r.config.batchSize then
      if r.batchComplete then counted.stopWith .relayMissed
      else { counted with batchComplete := true, batchCount := 0, state := .grace }.raise .batchDone
    else counted

/-- Batch accounting: a commit counts when the queue is RUN or GRACE at the moment of the commit (R79). -/
def RxQueue.accountBatch (r : RxQueue) : RxQueue :=
  match r.state with
  | .run | .grace => r.countBatch
  | _ => r

/-- A commit: the record joins the tail with the pending loss as its loss-before, then WATERMARK and the batch
accounting act in the same change (R63, R79, R88). -/
def RxQueue.commit (r : RxQueue) (rec : RxRecord) : RxQueue :=
  let joined :=
    { r with records := r.records ++ [{ rec with lossBefore := r.pendingLoss }], pendingLoss := 0,
             admitted := r.admitted + 1 }
  (joined.raiseIf (joined.recordCount == r.config.watermark) .watermark).accountBatch

/-- RX_DISABLE (R75). -/
def RxQueue.disable (r : RxQueue) : RxQueue := { r with state := .off }

/-- SOFT_RESET at its acceptance (R95). -/
def RxQueue.softReset (r : RxQueue) : RxQueue :=
  { r with state := .off, batchCount := 0, batchComplete := false, pendingLoss := 0, flush := false, events := 0 }

/-- RX_ACK_BATCH (R82). -/
def RxQueue.acknowledge (r : RxQueue) : RxQueue :=
  { r with
    batchComplete := false
    state := match r.state with
      | .grace => .run
      | .held .grace => .held .run
      | other => other }

/-! ### Removals (R92, R95, R100) -/

/-- The head record of queue `q` leaves its list and returns its descriptor and cells (R26). -/
def State.removeHeadRecord (s : State) (q : RxQueueId) : State :=
  match (s.rxQueue q).records with
  | [] => s
  | rec :: rest => (s.setRxQueue q { s.rxQueue q with records := rest }).returnHolder rec.cells

/-- The flush of queue `q` completes when its list is empty (R92). -/
def State.completeRxFlush (s : State) (q : RxQueueId) : State :=
  if (s.rxQueue q).records.isEmpty then
    (s.setRxQueue q { s.rxQueue q with flush := false }).completeLong
  else s

/-- The read window closes: open record, open queue and offset become absent (R97). -/
def State.closeWindow (s : State) : State := { s with window := { s.window with record := none } }

/-! ### Commands -/

/-- A command on one queue that is accepted in every state: it changes the queue by `f` (R75, R82). -/
def onRxQueue (f : RxQueue → RxQueue) (o : Operands) (s : State) : State × Result :=
  match rxQueueArg o.a with
  | none => (s, .badArg)
  | some q => (s.setRxQueue q (f (s.rxQueue q)), .ok)

/-- A command on one queue that is accepted only in some states: `f` answers the queue it leaves, or none for
WRONG_STATE (R74, R84, R86). -/
def onRxQueueIf (f : RxQueue → Option RxQueue) (o : Operands) (s : State) : State × Result :=
  match rxQueueArg o.a with
  | none => (s, .badArg)
  | some q =>
    match f (s.rxQueue q) with
    | none => (s, .wrongState)
    | some r => (s.setRxQueue q r, .ok)

/-- RX_CONFIG at its owner (R72). -/
def rxConfigure (o : Operands) (s : State) : State × Result :=
  match rxConfigArgs o with
  | none => (s, .badArg)
  | some (q, config) =>
    let r := s.rxQueue q
    if r.state = .off ∧ r.records = [] then (s.setRxQueue q { r with config := config }, .ok) else (s, .wrongState)

/-- A window whose stop time lies at or below its start time, with AT_TIME (R73). -/
def RxWindow.stopsBeforeStart (w : RxWindow) : Bool :=
  match w.start, w.stop with
  | .atTime start, some stop => !start.before stop
  | _, _ => false

/-- RX_WINDOW at its owner (R73). -/
def rxSetWindow (o : Operands) (s : State) : State × Result :=
  match rxWindowArgs o with
  | none => (s, .badArg)
  | some (q, w) =>
    if (s.rxQueue q).state ≠ .off then (s, .wrongState)
    else if w.stopsBeforeStart then (s, .badArg)
    else (s.setRxQueue q { s.rxQueue q with window := w }, .ok)

/-- RX_ENABLE of an OFF queue (R74). -/
def RxQueue.enableIfOff (now : LinkTime) (r : RxQueue) : Option RxQueue :=
  if r.state = .off then some (r.enable now) else none

/-- RX_REARM of a queue that a batch stopped (R84). -/
def RxQueue.rearm (r : RxQueue) : Option RxQueue :=
  match r.state with
  | .stopped .batchDone | .stopped .relayMissed =>
    some { r with state := .run, batchCount := 0, batchComplete := false }
  | _ => none

/-- RX_RESUME of a HELD queue (R86). -/
def RxQueue.resume (r : RxQueue) : Option RxQueue :=
  match r.state with
  | .held .run => some { r with state := .run }
  | .held .grace => some { r with state := .grace }
  | _ => none

/-- RX_FLUSH at its acceptance: the flag, the pending loss, and the window if it is open on the queue (R91, R105). -/
def State.startRxFlush (s : State) (q : RxQueueId) : State :=
  let opened := decide (s.window.record.map (·.queue) = some q)
  let flagged := (s.setRxQueue q { s.rxQueue q with flush := true, pendingLoss := 0 }).startLong (.rxFlush q)
  if opened then flagged.closeWindow.raise .windowLost else flagged

/-- RX_CONFIG (R72). -/
def execRxConfig (s : State) : Host.Outcome State Fault Refusal := .next (shortCommand 0x30 rxConfigure s)

/-- RX_WINDOW (R73). -/
def execRxWindow (s : State) : Host.Outcome State Fault Refusal := .next (shortCommand 0x31 rxSetWindow s)

/-- RX_ENABLE (R74). -/
def execRxEnable (s : State) : Host.Outcome State Fault Refusal :=
  .next (shortCommand 0x32 (fun o s => onRxQueueIf (RxQueue.enableIfOff s.time.now) o s) s)

/-- RX_DISABLE (R75). -/
def execRxDisable (s : State) : Host.Outcome State Fault Refusal :=
  .next (shortCommand 0x33 (onRxQueue RxQueue.disable) s)

/-- RX_REARM (R84). -/
def execRxRearm (s : State) : Host.Outcome State Fault Refusal :=
  .next (shortCommand 0x34 (onRxQueueIf RxQueue.rearm) s)

/-- RX_ACK_BATCH (R82). -/
def execRxAckBatch (s : State) : Host.Outcome State Fault Refusal :=
  .next (shortCommand 0x35 (onRxQueue RxQueue.acknowledge) s)

/-- RX_RESUME (R86). -/
def execRxResume (s : State) : Host.Outcome State Fault Refusal :=
  .next (shortCommand 0x36 (onRxQueueIf RxQueue.resume) s)

/-- RX_FLUSH: long; it completes at once for an empty queue, and with BAD_ARG without BUSY for a queue above 15 (R91,
R158). -/
def execRxFlush (s : State) : Host.Outcome State Fault Refusal :=
  .next (s.unlessReset fun s =>
    if s.busy then s.refuseCommand
    else
      let taken := s.acceptCommand 0x37
      match rxQueueArg taken.cmd.latch.a with
      | none => taken.completeCommand .badArg
      | some q => (taken.startRxFlush q).completeRxFlush q)

/-- RX_FLUSH_REMOVAL: a queue under flush removes its head record, and the flush completes when the list is empty
(R92). A queue that is not under flush has no such event (log 4). -/
def execRxFlushRemoval (q : RxQueueId) (s : State) : Host.Outcome State Fault Refusal :=
  .next (s.unlessReset fun s =>
    if (s.rxQueue q).flush then (s.removeHeadRecord q).completeRxFlush q else s)

/-- START_TIME_REACHED: the owner's transition when link time has reached the start time of a queue that is PENDING
with AT_TIME (R76). TCLK edges make the same transition in their own change, so the event finds nothing left to do
after them (log 5). -/
def execStartTimeReached (q : RxQueueId) (s : State) : Host.Outcome State Fault Refusal :=
  .next (s.unlessReset fun s =>
    match (s.rxQueue q).startWatched with
    | some t => if t.reachedAt s.time.now then s.setRxQueue q (s.rxQueue q).startRunning else s
    | none => s)

/-- STOP_TIME_REACHED: the owner's transition when link time has reached the queue's stop time (R77; log 5). -/
def execStopTimeReached (q : RxQueueId) (s : State) : Host.Outcome State Fault Refusal :=
  .next (s.unlessReset fun s =>
    match (s.rxQueue q).stopWatched with
    | some t => if t.reachedAt s.time.now then s.setRxQueue q (s.rxQueue q).reachStop else s
    | none => s)

end Sys2Proof.Machine
end

