-- ==== Sys2Proof/Machine/ReadWindow.lean ====
section
/-! DEFINITION. The read window (06): opening, releasing, closing, data port reads, and its two status words. -/

namespace Sys2Proof.Machine

/-- The open record: the head of the open queue (R97). -/
def State.openRecord (s : State) : Option RxRecord :=
  s.window.record.bind fun w => (s.rxQueue w.queue).records.head?

/-- RX_OPEN at its owner; the checks are made in this order (R98). -/
def rxOpen (o : Operands) (s : State) : State × Result :=
  match rxQueueArg o.a with
  | none => (s, .badArg)
  | some q =>
    if s.window.record.isSome then (s, .windowBusy)
    else if (s.rxQueue q).records.isEmpty then (s, .noRecord)
    else ({ s with window := { s.window with record := some ⟨q, 0⟩, readPastEnd := false } }, .ok)

/-- RX_RELEASE at its owner: the open record leaves its queue and returns to the pool, and the window closes (R100). -/
def rxRelease (_ : Operands) (s : State) : State × Result :=
  match s.window.record with
  | none => (s, .noWindow)
  | some w => ((s.removeHeadRecord w.queue).closeWindow, .ok)

/-- RX_CLOSE at its owner (R101). -/
def rxClose (_ : Operands) (s : State) : State × Result :=
  match s.window.record with
  | none => (s, .noWindow)
  | some _ => (s.closeWindow, .ok)

/-- RX_OPEN (R98). -/
def execRxOpen (s : State) : Host.Outcome State Fault Refusal := .next (shortCommand 0x38 rxOpen s)

/-- RX_RELEASE (R100). -/
def execRxRelease (s : State) : Host.Outcome State Fault Refusal := .next (shortCommand 0x39 rxRelease s)

/-- RX_CLOSE (R101). -/
def execRxClose (s : State) : Host.Outcome State Fault Refusal := .next (shortCommand 0x3A rxClose s)

/-- The word of the next payload bytes: the byte at the offset in the lower half, the next one or 0 in the upper half
(R102). -/
def payloadWord (bytes : List Byte) (offset : Nat) : Word := bytes.getD (offset + 1) 0 ++ bytes.getD offset 0

/-- A read returns a word on HD15..HD0 (R173; log 3). -/
def State.returnWord (s : State) (w : Word) : State := { s with host := { s.host with lastRead := some w } }

/-- A data port read (R102, R103). -/
def State.dataPortRead (s : State) : State :=
  match s.window.record with
  | none => { s with window := { s.window with noWindowRead := true } }.returnWord 0
  | some w =>
    let bytes := ((s.openRecord).map (·.payload)).getD []
    if w.offset < bytes.length then
      { s with
        window := { s.window with record := some { w with offset := min (w.offset + 2) bytes.length } } }.returnWord
          (payloadWord bytes w.offset)
    else { s with window := { s.window with readPastEnd := true } }.returnWord 0

/-- DATA_PORT_READ: a read with HDACK_N asserted is taken exactly as a processor read (R102, R103, R108). -/
def execDataPortRead (_ : PortAccess) (s : State) : Host.Outcome State Fault Refusal :=
  .next (s.unlessReset State.dataPortRead)

/-- WIN_STATUS_WRITE: clears READ_PAST_END (bit 1) and NO_WINDOW_READ (bit 2) where written with a one (R103, R109). -/
def execWinStatusWrite (value : Word) (s : State) : Host.Outcome State Fault Refusal :=
  .next (s.unlessReset fun s =>
    { s with window := { s.window with readPastEnd := clearFlag s.window.readPastEnd value 1
                                       noWindowRead := clearFlag s.window.noWindowRead value 2 } })

/-- WIN_CTRL_WRITE: bit 0 is the DMA direction, effective at the write (R107). -/
def execWinCtrlWrite (value : Word) (s : State) : Host.Outcome State Fault Refusal :=
  .next (s.unlessReset fun s =>
    { s with window := { s.window with direction := if value.getLsbD 0 then .tx else .rx } })

end Sys2Proof.Machine
end

