-- ==== Sys2Proof/Machine/Scheduler.lean ====
section
/-! DEFINITION. How entries leave the transmit queues, and the selection that follows in the same change (07; 08, Due
Entries, Selection, Waiting for the Line, Finishing an Entry). -/

namespace Sys2Proof.Machine

/-! ### Deadlines (R135) -/

/-- The deadline of a timed entry: its launch time plus its queue's tolerance (R135). -/
def TxEntry.deadline (e : TxEntry) (c : TxConfig) : Option LinkTime := e.launch.map (·.addTicks c.tolerance)

/-- The entry's deadline watcher is armed on its way into WAITING_LINE: it is timed and its queue's late policy is
DROP_LATE (R133, R135). -/
def TxEntry.armsDeadline (e : TxEntry) (c : TxConfig) : Bool := e.launch.isSome && c.late == .dropLate

/-- Link time stands above the entry's deadline. -/
def TxEntry.lateAt (e : TxEntry) (c : TxConfig) (now : LinkTime) : Bool :=
  match e.deadline c with
  | some d => d.passedAt now
  | none => false

/-- The entry's armed deadline watcher has been answered: its deadline has been passed, or the watcher released at the
saturated value (R12, R137; log 9). -/
def TxEntry.releasedAt (e : TxEntry) (c : TxConfig) (now : LinkTime) (setBack : Bool) : Bool :=
  match e.deadline c with
  | some d => d.releasedAt now setBack
  | none => false

/-! ### Leaving a transmit queue -/

/-- The entry at a place of transmit queue `t` leaves the list and returns its descriptor and cells (R27). -/
def State.removeEntry (s : State) (t : TxQueueId) (place : Nat) : State :=
  match (s.txQueue t).entries[place]? with
  | none => s
  | some e =>
    (s.setTxQueue t { s.txQueue t with entries := (s.txQueue t).entries.eraseIdx place }).returnHolder e.cells

/-- The entry at a place of transmit queue `t` leaves with a report (R149). -/
def State.leaveWithReport (s : State) (t : TxQueueId) (place : Nat) (r : ReportResult) : State :=
  match (s.txQueue t).entries[place]? with
  | none => s
  | some e => (s.appendReport (reportOf t e r)).removeEntry t place

/-- The entry in flight finishes: its report, its leaving, its return, and the framer IDLE, in one change (R145). -/
def State.finishEntry (s : State) (t : TxQueueId) (r : ReportResult) : State :=
  (s.leaveWithReport t 0 r).setTxFramer .idle

/-! ### Selection (R131 to R135) -/

/-- The head of transmit queue `t` if it is a due candidate: the queue is ENABLED with no flush in progress, and its
head is due (R131, R132). -/
def TxQueue.dueHead (x : TxQueue) : Option TxEntry :=
  match x.entries with
  | [] => none
  | e :: _ => if e.due && !x.paused && !x.flush then some e else none

/-- Whether a candidate of a higher-numbered queue goes before the best one so far: a timed one goes before an
immediate one, and an earlier launch time before a later one; ties stay with the lower-numbered queue (R132). -/
def TxEntry.goesBefore (new best : TxEntry) : Bool :=
  match new.launch, best.launch with
  | some a, some b => a.before b
  | some _, none => true
  | none, _ => false

/-- One queue's candidate weighed against the best so far (R132). -/
def betterCandidate (s : State) (best : Option (TxQueueId × TxEntry)) (t : TxQueueId) :
    Option (TxQueueId × TxEntry) :=
  match (s.txQueue t).dueHead, best with
  | none, _ => best
  | some e, none => some (t, e)
  | some e, some (b, be) => if e.goesBefore be then some (t, e) else some (b, be)

/-- The candidate the scheduler picks, if any head is a due candidate (R132). -/
def State.candidate (s : State) : Option TxQueueId :=
  (([0, 1, 2, 3] : List TxQueueId).foldl (betterCandidate s) none).map (·.1)

/-- The queue selected now: the framer is IDLE, LINE_TX is on, no SOFT_RESET is in progress, and a candidate is due
(R132). -/
def State.selects (s : State) : Option TxQueueId :=
  if s.txf.state = .idle ∧ s.txf.lineTx = true ∧ s.softResetting = false then s.candidate else none

/-- The head of queue `t` enters WAITING_LINE with its deadline watcher armed if it is to be; a deadline already passed
expires at once (R133, R135, R137). -/
def State.enterWaiting (s : State) (t : TxQueueId) : State :=
  match (s.txQueue t).entries with
  | [] => s.setTxFramer .idle
  | e :: _ =>
    let armed := e.armsDeadline (s.txQueue t).config
    if armed && e.lateAt (s.txQueue t).config s.time.now then s.finishEntry t .lateDropped
    else s.setTxFramer (.waitingLine t armed false)

/-- Selections follow one another in the same change while each selected entry is dropped at once (R133, R135). Each
drop removes an entry, so `fuel` entries need `fuel` rounds. -/
def selectLoop : Nat → State → State
  | 0, s => s
  | fuel + 1, s =>
    match s.selects with
    | none => s
    | some t => selectLoop fuel (s.enterWaiting t)

/-- The number of entries in the four transmit queues. -/
def State.entryTotal (s : State) : Nat := (s.txq.toList.map fun x => x.entries.length).sum

/-- The launch scheduler selects if it can (R132). -/
def State.select (s : State) : State := selectLoop s.entryTotal s

/-! ### Completion of TX_FLUSH (R125) -/

/-- Queue `t` has nothing left for a flush: no entry, or only a SENDING head (R125). -/
def State.flushDone (s : State) (t : TxQueueId) : Bool :=
  match (s.txQueue t).entries with
  | [] => true
  | [_] => match s.txf.state with
    | .sending a => a.queue == t
    | _ => false
  | _ => false

/-- A running TX_FLUSH whose queue has nothing left completes, in whichever change that comes about (R125; log 14). -/
def State.completeTxFlush (s : State) : State :=
  match s.cmd.running with
  | some (.txFlush t) =>
    if s.flushDone t then (s.setTxQueue t { s.txQueue t with flush := false }).completeLong else s
  | _ => s

/-- What follows in the same change as an event of the transmit side: the completion of a flush, then selection. -/
def State.afterTransmit (s : State) : State := s.completeTxFlush.select

end Sys2Proof.Machine
end

