-- ==== Sys2Proof/Machine/TimeBase.lean ====
section
/-! DEFINITION. The link time base (01): TCLK edges and coarse boundaries with everything that link time brings about
in the same change, the time commands, and the reference list. -/

namespace Sys2Proof.Machine

/-! ### Edges (R1 to R4, R8) -/

/-- The edge taken now is a coarse boundary: the fine counter holds D-1 (R1). -/
def TimeBase.atBoundary (b : TimeBase) : Bool := b.now.fine.toNat + 1 == b.divisor.toNat

/-- A coarse boundary applies at once everything that is pending (R2, R4). -/
def TimeBase.boundary (b : TimeBase) : TimeBase :=
  let counted : TimeBase :=
    match b.pendingSet with
    | some v => { b with now := ⟨v, 0⟩, epoch := b.epoch + 1, slew := 0, pendingSet := none }
    | none =>
      { b with now := ⟨b.now.coarse + 1, 0⟩
               epoch := if b.now.coarse = BitVec.allOnes 32 then b.epoch + 1 else b.epoch }
  { counted with divisor := b.pendingDivisor.getD b.divisor, pendingDivisor := none, firstEdge := true }

/-- TIME_APPLIED is raised at a boundary where a pending set or divisor applies (R4). -/
def TimeBase.applies (b : TimeBase) : Bool := b.pendingSet.isSome || b.pendingDivisor.isSome

/-- The edge taken now makes a slew step: it is a first edge and slew remaining is not 0 (R3, R8). -/
def TimeBase.slewStepDue (b : TimeBase) : Bool := b.firstEdge && b.slew != 0

/-- An edge that is no boundary: a slew step, or an ordinary edge (R1, R3, R8). -/
def TimeBase.countEdge (b : TimeBase) : TimeBase :=
  if b.slewStepDue then
    if 0 < b.slew then { b with now := { b.now with fine := 2 }, slew := b.slew - 1, firstEdge := false }
    else { b with slew := b.slew + 1, firstEdge := false }
  else { b with now := { b.now with fine := b.now.fine + 1 }, firstEdge := false }

/-- SLEW_DONE is raised when a slew step brings slew remaining to 0 (R8). -/
def TimeBase.slewEnds (b : TimeBase) : Bool := b.slewStepDue && b.countEdge.slew == 0

/-! ### What a change of link time brings about, in the same change (R11; log 5, log 8) -/

/-- A timed entry becomes due when link time reaches its launch time; a due entry stays due (R131). -/
def TxEntry.timeChange (old new : LinkTime) (e : TxEntry) : TxEntry :=
  match e.launch with
  | some t => { e with due := e.due || t.reachedBy old new }
  | none => e

/-- The launch watchers of a transmit queue (R131). -/
def TxQueue.timeChange (old new : LinkTime) (x : TxQueue) : TxQueue :=
  { x with entries := x.entries.map (TxEntry.timeChange old new) }

/-- The deadline watcher of the entry waiting for the line is released without an expiry: it is armed no more, and the
entry goes on waiting, since time does not drop it (R11, R12, R135; log 9). -/
def State.releaseDeadline (s : State) (t : TxQueueId) : State := s.setTxFramer (.waitingLine t false false)

/-- The deadline of the entry waiting for the line expires when link time passes it (R137). A count that reaches a
saturated one after a backward set releases its watcher, and drops nothing (R12, R135; log 9). -/
def State.deadlineChange (s : State) (old new : LinkTime) : State :=
  match s.txf.state with
  | .waitingLine t true setBack =>
    match (s.txQueue t).entries.head?.bind (·.deadline (s.txQueue t).config) with
    | some d =>
      if d.passedBy old new then s.finishEntry t .lateDropped
      else if d.releasedBy old new setBack then s.releaseDeadline t
      else s
    | none => s
  | _ => s

/-- Every owner of a time watcher makes its transitions: the receive queues, the launch watchers, the deadline, then
the selection that follows (R11, R78, R131, R132, R137; log 8). -/
def State.timeChange (s : State) (old new : LinkTime) : State :=
  let watched := { s with rxq := s.rxq.map (RxQueue.timeChange old new), txq := s.txq.map (TxQueue.timeChange old new) }
  (watched.deadlineChange old new).afterTransmit

/-- The set that applies at this boundary moves link time backward: its value lies at or below the old one (R11). -/
def TimeBase.setsBack (b : TimeBase) : Bool :=
  match b.pendingSet with
  | some v => !b.now.before ⟨v, 0⟩
  | none => false

/-- An armed deadline watcher takes note of a backward set (R12; log 9). -/
def TxFramerState.noteSetBack : TxFramerState → TxFramerState
  | .waitingLine t true _ => .waitingLine t true true
  | other => other

/-- The transmit framer at a boundary: a backward set is noted by the deadline watcher, if it is armed (R12; log 9). -/
def State.noteBoundary (s : State) : State :=
  if s.time.setsBack then s.setTxFramer s.txf.state.noteSetBack else s

/-- A coarse boundary with all it brings about (R4). -/
def State.takeBoundary (s : State) : State :=
  ({ s.noteBoundary with time := s.time.boundary }.raiseIf s.time.applies .timeApplied).timeChange s.time.now
    s.time.boundary.now

/-- A TCLK edge that is no boundary, with all it brings about (R1, R3, R8). -/
def State.takeCountingEdge (s : State) : State :=
  ({ s with time := s.time.countEdge }.raiseIf s.time.slewEnds .slewDone).timeChange s.time.now s.time.countEdge.now

/-- TCLK_EDGE: an edge taken while the fine counter holds D-1 is a coarse boundary (R1; log 7). -/
def execTclkEdge (s : State) : Host.Outcome State Fault Refusal :=
  .next (s.unlessReset fun s => if s.time.atBoundary then s.takeBoundary else s.takeCountingEdge)

/-- COARSE_BOUNDARY: the edge taken while the fine counter holds D-1 (R4). No such event exists elsewhere in a tick
(log 4, log 7). -/
def execCoarseBoundary (s : State) : Host.Outcome State Fault Refusal :=
  .next (s.unlessReset fun s => if s.time.atBoundary then s.takeBoundary else s)

/-- LAUNCH_TIME_REACHED: the transition of the launch watcher of the entry at a place of queue `t` when link time has
reached its launch time, and the selection that follows (R131, R132; log 5). -/
def execLaunchTimeReached (t : TxQueueId) (place : Fin 64) (s : State) : Host.Outcome State Fault Refusal :=
  .next (s.unlessReset fun s =>
    match (s.txQueue t).entries[place.val]? with
    | none => s
    | some e =>
      match e.launch with
      | none => s
      | some T =>
        if e.due = false ∧ T.reachedAt s.time.now = true then
          (s.setTxQueue t
            { s.txQueue t with entries := (s.txQueue t).entries.set place.val { e with due := true } }).afterTransmit
        else s)

/-- DEADLINE_EXPIRY: the transition of the armed deadline watcher when link time has passed the deadline, and what
follows, or its release when link time has reached a saturated one after a backward set (R12, R135, R137; log 5,
log 9). -/
def execDeadlineExpiry (s : State) : Host.Outcome State Fault Refusal :=
  .next (s.unlessReset fun s =>
    match s.txf.state with
    | .waitingLine t true setBack =>
      match (s.txQueue t).entries.head? with
      | some e =>
        if e.lateAt (s.txQueue t).config s.time.now then (s.finishEntry t .lateDropped).afterTransmit
        else if e.releasedAt (s.txQueue t).config s.time.now setBack then s.releaseDeadline t
        else s
      | none => s
    | _ => s)

/-! ### Time commands (R5, R6, R7) -/

/-- TIME_SET at its owner (R5). -/
def timeSet (o : Operands) (s : State) : State × Result :=
  ({ s with time := { s.time with pendingSet := some (coarseArg o.a o.b) } }, .ok)

/-- TIME_DIVISOR at its owner (R6). -/
def timeDivisor (o : Operands) (s : State) : State × Result :=
  match divisorArg o.a with
  | none => (s, .badArg)
  | some d => ({ s with time := { s.time with pendingDivisor := some d } }, .ok)

/-- TIME_ADJUST at its owner; the checks are made in this order (R7). -/
def timeAdjust (o : Operands) (s : State) : State × Result :=
  if o.a.toInt = -32768 then (s, .badArg)
  else if s.time.slew ≠ 0 then (s, .timeBusy)
  else ({ s with time := { s.time with slew := o.a.toInt } }, .ok)

/-- TIME_SET (R5). -/
def execTimeSet (s : State) : Host.Outcome State Fault Refusal := .next (shortCommand 0x10 timeSet s)

/-- TIME_DIVISOR (R6). -/
def execTimeDivisor (s : State) : Host.Outcome State Fault Refusal := .next (shortCommand 0x11 timeDivisor s)

/-- TIME_ADJUST (R7). -/
def execTimeAdjust (s : State) : Host.Outcome State Fault Refusal := .next (shortCommand 0x12 timeAdjust s)

/-! ### Reference list (R13, R14, R15) -/

/-- A candidate is appended: REF_NEW, and to a full list REF_OVERWRITE with the oldest entry removed (R13, R14). -/
def State.appendReference (s : State) (e : RefEntry) : State :=
  if s.time.refs.length < Config.referencePlaces then
    { s with time := { s.time with refs := s.time.refs ++ [e] } }.raise .refNew
  else
    ({ s with time := { s.time with refs := s.time.refs.tail ++ [e],
                                    refOverwrites := satInc s.time.refOverwrites } }.raise .refOverwrite).raise .refNew

/-- REF_POP at its owner (R15). -/
def refPop (_ : Operands) (s : State) : State × Result :=
  match s.time.refs with
  | [] => (s, .empty)
  | _ :: rest => ({ s with time := { s.time with refs := rest } }, .ok)

/-- REF_POP (R15). -/
def execRefPop (s : State) : Host.Outcome State Fault Refusal := .next (shortCommand 0x13 refPop s)

/-- TIME_C_HI_READ: captures the snapshot from one state of the time base and returns the upper coarse half (R175). -/
def execTimeCHiRead (s : State) : Host.Outcome State Fault Refusal :=
  .next (s.unlessReset fun s =>
    { s with host := { s.host with snapshot := s.time.stamp
                                   lastRead := some (s.time.now.coarse.extractLsb' 16 16) } })

end Sys2Proof.Machine
end

