-- ==== Sys2Proof/Machine/Classifier.lean ====
section
/-! DEFINITION. The classifier (04): the channel table and its commands, the verdict at the header, and settling the
end of a packet. -/

namespace Sys2Proof.Machine

/-! ### The verdict at the header (R56 to R61) -/

/-- What the sequence check finds (R58). -/
inductive SequenceVerdict where
  | unchecked
  | duplicate
  | inSequence
  | gap (size : BitVec 4)
deriving DecidableEq, Repr

/-- The sequence check of a packet against its channel's snapshot (R58). -/
def checkSequence (e : ChannelEntry) (p : BitVec 4) : SequenceVerdict :=
  match e.config.sequenceCheck, e.lastSequence with
  | true, some last =>
    if p = last then .duplicate
    else if p = last + 1 then .inSequence
    else .gap (p - (last + 1))
  | _, _ => .unchecked

/-- A duplicate under DISCARD is dropped at the header (R59). -/
def dropsDuplicate (e : ChannelEntry) (p : BitVec 4) : Bool :=
  decide (checkSequence e p = .duplicate) && decide (e.config.duplicate = .discard)

/-- The pool step for a packet its queue admits: granted, or a loss on the queue (R20, R61). -/
def State.reserveFor (s : State) (q : RxQueueId) (h : Header) : State × Verdict :=
  let r := s.rxQueue q
  let cells := cellsFor h.length.toNat
  match rxReservationRefusal s.pool r.cellCount r.config.quota cells with
  | none => (s.takeReservation cells, .admitted)
  | some _ => (s.setRxQueue q r.lose, .loss)

/-- The queue's answer to a header addressed to it (R60). -/
def State.admitTo (s : State) (q : RxQueueId) (h : Header) : State × Verdict :=
  let r := s.rxQueue q
  if r.flush then (s.setRxQueue q r.refuse, .refused)
  else
    match r.state with
    | .run | .grace => s.reserveFor q h
    | .pending =>
      if r.window.start = .atMarker ∧ h.marker = true then (s.setRxQueue q r.startRunning).reserveFor q h
      else (s.setRxQueue q r.refuse, .refused)
    | .off | .stopped _ => (s.setRxQueue q r.refuse, .refused)
    | .held _ => (s.setRxQueue q r.lose, .loss)

/-- The framer's unrouted counter advances (R41, R57). -/
def State.countUnrouted (s : State) : State := { s with rxf := { s.rxf with unrouted := satInc s.rxf.unrouted } }

/-- The verdict at a good header, in its four steps (04, The Verdict at the Header; R57 to R61). -/
def State.classify (s : State) (h : Header) : State × Verdict :=
  let e := s.channel h.channel
  match e.config.action with
  | .drop => (s.countUnrouted, .unrouted)
  | .queue =>
    if dropsDuplicate e h.sequence then
      (s.setChannel h.channel { e with duplicatesDropped := satInc e.duplicatesDropped }, .duplicateDropped)
    else s.admitTo e.config.queue h

/-- DUPLICATE as it travels with the packet: a packet that reached its queue carries it under KEEP (R58). -/
def carriesDuplicate (e : ChannelEntry) (p : BitVec 4) : Bool :=
  decide (e.config.action = .queue) && decide (checkSequence e p = .duplicate) && decide (e.config.duplicate = .keep)

/-- The gap size as it travels with the packet, present with SEQ_GAP (R58). -/
def carriedGap (e : ChannelEntry) (p : BitVec 4) : Option (BitVec 4) :=
  match e.config.action, checkSequence e p with
  | .queue, .gap n => some n
  | _, _ => none

/-! ### The outcome of a packet (R44, R46) -/

/-- The outcome flags when a packet ends by LREOP, or by an early start (R44, R46; log 12). -/
def BodyPacket.outcome (p : BodyPacket) (early : Bool) : RecordFlags :=
  let total := expectedTotal p.header.length
  let truncated := early || decide (p.count < total)
  { lineError := p.lineError
    checkFail := truncated || decide (trailerValue p.trailer ≠ some p.crc)
    truncated := truncated
    earlyStart := early
    overlong := !early && decide (total < p.count)
    duplicate := p.duplicate }

/-! ### Settling the end (R62 to R66) -/

/-- The errored policy applies to the outcome (R62). -/
def RecordFlags.errored (f : RecordFlags) : Bool := f.lineError || f.truncated || f.overlong

/-- The record that a commit appends, but for its loss-before (R63). -/
def BodyPacket.record (p : BodyPacket) (f : RecordFlags) (bytes : List Byte) : RxRecord :=
  { queue := p.snapshot.config.queue, header := p.header, stamp := p.stamp, flags := f, gap := p.gap, lossBefore := 0,
    arrival := p.arrival, payload := bytes }

/-- A commit to queue `q`: surplus cells return, the quota is checked, and the record joins the queue or is discarded
as refused, in one change (R23, R63). -/
def State.commitRecord (s : State) (q : RxQueueId) (p : BodyPacket) (rec : RxRecord) : State :=
  let r := s.rxQueue q
  let trimmed := s.returnCells (p.reservedCells - rec.cells)
  if r.cellCount + rec.cells ≤ r.config.quota then trimmed.setRxQueue q (r.commit rec)
  else (trimmed.setRxQueue q r.refuse).returnHolder rec.cells

/-- The end of a packet that holds storage, by the first case that applies (R62). -/
def State.settleStorage (s : State) (p : BodyPacket) (f : RecordFlags) (bytes : List Byte) : State :=
  let q := p.snapshot.config.queue
  let r := s.rxQueue q
  if (f.checkFail && decide (p.snapshot.config.check = .discard)) ||
      (f.errored && decide (p.snapshot.config.errored = .discard)) then
    (s.setRxQueue q r.reject).returnHolder p.reservedCells
  else if decide (r.state = .off) || r.flush then (s.setRxQueue q r.refuse).returnHolder p.reservedCells
  else s.commitRecord q p (p.record f bytes)

/-- The end updates the channel's last sequence (R59, R65). -/
def BodyPacket.updatesSequence (p : BodyPacket) (f : RecordFlags) : Bool :=
  p.snapshot.config.sequenceCheck && !f.checkFail && decide (p.verdict ≠ .duplicateDropped)

/-- The update of the live entry's last sequence (R65). -/
def State.settleSequence (s : State) (p : BodyPacket) (f : RecordFlags) : State :=
  if p.updatesSequence f then
    s.setChannel p.header.channel
      { s.channel p.header.channel with lastSequence := some p.header.sequence }
  else s

/-- The reference entry of the six bytes of a TIME packet's payload (R13; 01, Reference List). -/
def referenceOf (channel : ChannelId) (stamp : Stamp) : List Byte → Option RefEntry
  | [c3, c2, c1, c0, f1, f0] =>
    some { channel := channel, stamp := stamp, remoteCoarse := c3 ++ c2 ++ c1 ++ c0, remoteFine := f1 ++ f0 }
  | _ => none

/-- The framer keeps the payload bytes of a packet that may become a candidate (R43). -/
def keepsTime (e : ChannelEntry) (h : Header) : Bool :=
  e.config.reference && decide (h.kind = .time) && decide (h.length = 6)

/-- The reference candidate a packet gives at its end, if any (R13, R66). -/
def BodyPacket.candidate (p : BodyPacket) (f : RecordFlags) : Option RefEntry :=
  if keepsTime p.snapshot p.header && !f.checkFail && !f.errored then referenceOf p.header.channel p.stamp p.kept
  else none

/-- The hand-over of a reference candidate (R66). -/
def State.settleReference (s : State) (p : BodyPacket) (f : RecordFlags) : State :=
  match p.candidate f with
  | some e => s.appendReference e
  | none => s

/-- The end of a packet: storage, last sequence, reference candidate, in one step (04, Settling the End). -/
def State.settleEnd (s : State) (p : BodyPacket) (early : Bool) : State :=
  let f := p.outcome early
  let stored := match p.storage with
    | some bytes => s.settleStorage p f bytes
    | none => s
  (stored.settleSequence p f).settleReference p f

/-! ### Channel commands (R53, R54, R55, R67) -/

/-- CH_WRITE at its owner: all seven fields change together (R53). -/
def chWrite (o : Operands) (s : State) : State × Result :=
  match channelWriteArgs o with
  | none => (s, .badArg)
  | some (c, config) => (s.setChannel c { s.channel c with config := config }, .ok)

/-- CH_READ at its owner: the entry is written into the operand words (R54). -/
def chRead (o : Operands) (s : State) : State × Result :=
  match channelArg o.a with
  | none => (s, .badArg)
  | some c => ({ s with cmd := { s.cmd with operands := channelReadWords (s.channel c) } }, .ok)

/-- CH_SEQ_RESET at its owner (R55). -/
def chSeqReset (o : Operands) (s : State) : State × Result :=
  match channelArg o.a, choiceArg o.b with
  | some c, some clear =>
    let e := s.channel c
    (s.setChannel c
      { e with lastSequence := none, duplicatesDropped := if clear then 0 else e.duplicatesDropped }, .ok)
  | _, _ => (s, .badArg)

/-- TX_SEQ_SET at its owner (R67). -/
def txSeqSet (o : Operands) (s : State) : State × Result :=
  match channelArg o.a, sequenceArg o.b with
  | some c, some v => (s.setTxSequence c v, .ok)
  | _, _ => (s, .badArg)

/-- CH_WRITE (R53). -/
def execChWrite (s : State) : Host.Outcome State Fault Refusal := .next (shortCommand 0x28 chWrite s)

/-- CH_READ (R54). -/
def execChRead (s : State) : Host.Outcome State Fault Refusal := .next (shortCommand 0x29 chRead s)

/-- CH_SEQ_RESET (R55). -/
def execChSeqReset (s : State) : Host.Outcome State Fault Refusal := .next (shortCommand 0x2A chSeqReset s)

/-- TX_SEQ_SET (R67). -/
def execTxSeqSet (s : State) : Host.Outcome State Fault Refusal := .next (shortCommand 0x2B txSeqSet s)

end Sys2Proof.Machine
end

