-- ==== Sys2Proof/Machine/RxFraming.lean ====
section
/-! DEFINITION. The receive framer (03): what each line byte does in each framer state, and LINE_RX. -/

namespace Sys2Proof.Machine

/-! ### Starting a packet and header errors (R37, R39, R40, R47) -/

/-- A header error: the counter, HDR_ERROR, and the in-flight record removed, with the framer in the state given (R39,
R40, R47). -/
def State.headerError (s : State) (after : RxFramerState) : State :=
  { s with rxf := { s.rxf with headerErrors := satInc s.rxf.headerErrors, state := after } }.raise .hdrError

/-- A byte with LRSOP begins a packet: stamp, arrival number, a fresh in-flight record; with LREOP too it is a header
error at once (R37, R49). -/
def State.beginPacket (s : State) (data : Byte) (eop err : Bool) : State :=
  let seen := s.rxf.packetsSeen + 1
  let counted := { s with rxf := { s.rxf with packetsSeen := seen } }
  if eop then counted.headerError .hunt
  else
    counted.setRxFramer
      (.header { stamp := s.time.stamp, arrival := seen, bytes := [data], lineError := err,
                 crc := crcByte crcStart data })

/-! ### Following the body (R42, R43) -/

/-- A byte without LRSOP in BODY, treated by its position (R42, R43). -/
def BodyPacket.takeByte (p : BodyPacket) (data : Byte) (err : Bool) : BodyPacket :=
  let n := p.count + 1
  let counted := { p with count := n, lineError := p.lineError || err }
  if n ≤ 4 + p.header.length.toNat then
    { counted with
      crc := crcByte p.crc data
      storage := p.storage.map (· ++ [data])
      kept := if keepsTime p.snapshot p.header then p.kept ++ [data] else p.kept }
  else if n ≤ expectedTotal p.header.length then { counted with trailer := p.trailer ++ [data] }
  else counted

/-- The stored length of the packet in flight: the payload bytes received so far (03, Framer State). -/
def BodyPacket.storedLength (p : BodyPacket) : Nat := min (p.count - 4) p.header.length.toNat

/-- A packet ends: its outcome is settled and the in-flight record is removed, the framer entering HUNT (R44, R45). -/
def State.endPacket (s : State) (p : BodyPacket) (early : Bool) : State := (s.settleEnd p early).setRxFramer .hunt

/-! ### The header (R39, R40, R41) -/

/-- The in-flight record of a packet whose good header has been classified (R41, R56, R58). -/
def HeaderPacket.toBody (p : HeaderPacket) (h : Header) (e : ChannelEntry) (v : Verdict) (b3 : Byte) : BodyPacket :=
  { stamp := p.stamp, arrival := p.arrival, bytes := p.bytes ++ [b3], header := h, snapshot := e, verdict := v,
    duplicate := carriesDuplicate e h.sequence, gap := carriedGap e h.sequence, count := 4, crc := crcByte p.crc b3,
    trailer := [], lineError := false, storage := if v = .admitted then some [] else none, kept := [] }

/-- A good header: the classifier's verdict in the same step, then BODY; with LREOP the packet's end follows at once
(R40, R41, R44). -/
def State.goodHeader (s : State) (p : HeaderPacket) (h : Header) (b3 : Byte) (eop : Bool) : State :=
  let settled := s.classify h
  let body := p.toBody h (s.channel h.channel) settled.2 b3
  if eop then settled.1.endPacket body false else settled.1.setRxFramer (.body body)

/-- A byte without LRSOP in HEADER (R39, R40). -/
def State.headerByte (s : State) (p : HeaderPacket) (data : Byte) (eop err : Bool) : State :=
  let noted := p.lineError || err
  match p.bytes with
  | [b0, b1, b2] =>
    match judgeHeader b0 b1 b2 data noted with
    | some h => s.goodHeader p h data eop
    | none => s.headerError (if eop then .hunt else .discard)
  | bytes =>
    if eop then s.headerError .hunt
    else s.setRxFramer (.header { p with bytes := bytes ++ [data], lineError := noted, crc := crcByte p.crc data })

/-! ### The line byte -/

/-- A byte without LRSOP in HUNT is a stray byte (R38). -/
def State.strayByte (s : State) : State := { s with rxf := { s.rxf with strayBytes := satInc s.rxf.strayBytes } }

/-- A byte with LRSOP, in the framer state it finds (R37, R46, R47). -/
def State.startByte (s : State) (data : Byte) (eop err : Bool) : State :=
  match s.rxf.state with
  | .hunt | .discard => s.beginPacket data eop err
  | .header _ => (s.headerError .hunt).beginPacket data eop err
  | .body p => (s.endPacket p true).beginPacket data eop err

/-- A byte without LRSOP, in the framer state it finds (R38, R39, R42, R44). -/
def State.otherByte (s : State) (data : Byte) (eop err : Bool) : State :=
  match s.rxf.state with
  | .hunt => s.strayByte
  | .discard => if eop then s.setRxFramer .hunt else s
  | .header p => s.headerByte p data eop err
  | .body p =>
    let taken := p.takeByte data err
    if eop then s.endPacket taken false else s.setRxFramer (.body taken)

/-- LINE_BYTE: ignored while LINE_RX is off, else handled in the framer state it finds (R36, R37). -/
def execLineByte (data : Byte) (sop eop err : Bool) (s : State) : Host.Outcome State Fault Refusal :=
  .next (s.unlessReset fun s =>
    if s.rxf.lineRx then (if sop then s.startByte data eop err else s.otherByte data eop err) else s)

/-! ### Abandonment and LINE_RX (R36, R48) -/

/-- The storage of a packet that is abandoned returns to the pool; there is no end (R26, R48). -/
def State.returnFilling (s : State) : State :=
  match s.fillingCells with
  | some cells => s.returnHolder cells
  | none => s

/-- Reception is turned off: a packet in progress is abandoned, and the framer is in HUNT (R36, R48). -/
def State.lineRxOff (s : State) : State :=
  let returned := s.returnFilling
  { returned with rxf := { returned.rxf with lineRx := false, state := .hunt } }

/-- Reception is turned on (R36). -/
def State.lineRxOn (s : State) : State := { s with rxf := { s.rxf with lineRx := true } }

/-- The four framer counters become 0 (R36, R49). -/
def State.clearFramerCounters (s : State) : State :=
  { s with rxf := { s.rxf with packetsSeen := 0, headerErrors := 0, strayBytes := 0, unrouted := 0 } }

/-- LINE_RX at its owner (R36). -/
def lineRxSet (o : Operands) (s : State) : State × Result :=
  match choiceArg o.a, choiceArg o.b with
  | some on, some clear =>
    let turned := if on then s.lineRxOn else s.lineRxOff
    (if clear then turned.clearFramerCounters else turned, .ok)
  | _, _ => (s, .badArg)

/-- LINE_RX (R36). -/
def execLineRx (s : State) : Host.Outcome State Fault Refusal := .next (shortCommand 0x20 lineRxSet s)

/-- SOFT_RESET at its acceptance: a packet in HEADER or BODY is abandoned and the rest of it is passed over; HUNT and
DISCARD keep their state (R51). -/
def State.softResetFramer (s : State) : State :=
  match s.rxf.state with
  | .hunt | .discard => s
  | .header _ | .body _ => s.returnFilling.setRxFramer .discard

end Sys2Proof.Machine
end

