-- ==== Sys2Proof/Machine/TxQueues.lean ====
section
/-! DEFINITION. The staging record and the transmit queues (07): building, submitting, abandoning, and the commands
and removals that act on the queues. -/

namespace Sys2Proof.Machine

/-! ### Staging (R111 to R118) -/

/-- The insert-time option is on while the kind is not TIME or L is not 6 (R112). -/
def StagingRecord.badInsert (r : StagingRecord) : Bool :=
  r.insertTime && !(decide (r.kind = .time) && decide (r.length = 6))

/-- TX_BEGIN at its owner; the checks are made in this order (R112, R113). -/
def txBegin (o : Operands) (s : State) : State × Result :=
  if s.staging.record.isSome then (s, .windowBusy)
  else
    match txBeginArgs o with
    | none => (s, .badArg)
    | some r =>
      if r.badInsert then (s, .badArg)
      else if txReservationGranted s.pool r.cells then
        ({ s with staging := { s.staging with record := some r, writePastEnd := false } }.takeReservation r.cells, .ok)
      else (s, .noSpace)

/-- The bytes a data port write puts into a staging record with a given number of bytes left (R114). -/
def writtenBytes (left : Nat) (value : Word) : List Byte :=
  [value.extractLsb' 0 8, value.extractLsb' 8 8].take left

/-- A data port write (R114, R115). -/
def State.dataPortWrite (s : State) (value : Word) : State :=
  match s.staging.record with
  | none => { s with staging := { s.staging with noWindowWrite := true } }
  | some r =>
    if r.payload.length < r.length.toNat then
      { s with
        staging := { s.staging with
          record := some { r with payload := r.payload ++ writtenBytes (r.length.toNat - r.payload.length) value } } }
    else { s with staging := { s.staging with writePastEnd := true } }

/-- DATA_PORT_WRITE: a write with HDACK_N asserted goes to the staging record as any other (R108, R114, R115). -/
def execDataPortWrite (_ : PortAccess) (value : Word) (s : State) : Host.Outcome State Fault Refusal :=
  .next (s.unlessReset fun s => s.dataPortWrite value)

/-- STG_STATUS_WRITE: clears WRITE_PAST_END (bit 1) and NO_WINDOW_WRITE (bit 2) where written with a one (R115). -/
def execStgStatusWrite (value : Word) (s : State) : Host.Outcome State Fault Refusal :=
  .next (s.unlessReset fun s =>
    { s with staging := { s.staging with writePastEnd := clearFlag s.staging.writePastEnd value 1
                                         noWindowWrite := clearFlag s.staging.noWindowWrite value 2 } })

/-- The entry a staging record becomes: an immediate one is due, and a timed one is due if its launch time is already
reached (R116, R131). -/
def StagingRecord.toEntry (r : StagingRecord) (now : LinkTime) : TxEntry :=
  { channel := r.channel, kind := r.kind, marker := r.marker, insertTime := r.insertTime, length := r.length,
    launch := r.launch, tag := r.tag, payload := r.payload,
    due := match r.launch with
      | none => true
      | some t => t.reachedAt now
    attempts := 0, sequenceUsed := none, startStamp := none }

/-- A launch time earlier than the latest launch time among the entries (R116). -/
def TxQueue.breaksOrder (x : TxQueue) (launch : Option LinkTime) : Bool :=
  match launch with
  | none => false
  | some t => x.entries.any fun e =>
    match e.launch with
    | some u => t.before u
    | none => false

/-- Staging becomes CLOSED (R111). -/
def State.closeStaging (s : State) : State := { s with staging := { s.staging with record := none } }

/-- TX_SUBMIT at its owner; the checks are made in this order (R116). -/
def txSubmit (_ : Operands) (s : State) : State × Result :=
  match s.staging.record with
  | none => (s, .noWindow)
  | some r =>
    let x := s.txQueue r.queue
    if r.payload.length < r.length.toNat then (s, .incomplete)
    else if x.config.depth ≤ x.entries.length then (s, .queueFull)
    else if x.breaksOrder r.launch then (s, .order)
    else
      ((s.setTxQueue r.queue { x with entries := x.entries ++ [r.toEntry s.time.now] }).closeStaging.afterTransmit, .ok)

/-- The staging record, if open, is discarded and returns its resources (R27, R118). -/
def State.abandonStaging (s : State) : State :=
  match s.staging.record with
  | none => s
  | some r => s.closeStaging.returnHolder r.cells

/-- TX_ABANDON at its owner (R118). -/
def txAbandon (_ : Operands) (s : State) : State × Result :=
  if s.staging.record.isSome then (s.abandonStaging, .ok) else (s, .noWindow)

/-- TX_BEGIN (R112, R113). -/
def execTxBegin (s : State) : Host.Outcome State Fault Refusal := .next (shortCommand 0x41 txBegin s)

/-- TX_SUBMIT (R116). -/
def execTxSubmit (s : State) : Host.Outcome State Fault Refusal := .next (shortCommand 0x42 txSubmit s)

/-- TX_ABANDON (R118). -/
def execTxAbandon (s : State) : Host.Outcome State Fault Refusal := .next (shortCommand 0x43 txAbandon s)

/-! ### Queue commands (R120 to R125) -/

/-- TX_CONFIG at its owner (R120). -/
def txConfigure (o : Operands) (s : State) : State × Result :=
  match txConfigArgs o with
  | none => (s, .badArg)
  | some (t, config) =>
    if (s.txQueue t).entries.isEmpty then (s.setTxQueue t { s.txQueue t with config := config }, .ok)
    else (s, .wrongState)

/-- TX_PAUSE at its owner: the queue becomes PAUSED; an entry in flight is not affected (R121). -/
def txPause (o : Operands) (s : State) : State × Result :=
  match txQueueArg o.a with
  | none => (s, .badArg)
  | some t => (s.setTxQueue t { s.txQueue t with paused := true }, .ok)

/-- TX_START at its owner: the queue becomes ENABLED, and its head may be selected (R121, R132). -/
def txStart (o : Operands) (s : State) : State × Result :=
  match txQueueArg o.a with
  | none => (s, .badArg)
  | some t => ((s.setTxQueue t { s.txQueue t with paused := false }).afterTransmit, .ok)

/-- The place of the oldest entry with a tag (R122). -/
def TxQueue.placeOfTag (x : TxQueue) (tag : Word) : Option Nat := x.entries.findIdx? fun e => e.tag == tag

/-- The head of queue `t` is in flight and SENDING. -/
def State.headSending (s : State) (t : TxQueueId) : Bool :=
  match s.txf.state with
  | .sending a => a.queue == t
  | _ => false

/-- The head of queue `t` is in flight and WAITING_LINE. -/
def State.headWaiting (s : State) (t : TxQueueId) : Bool :=
  match s.txf.state with
  | .waitingLine u _ _ => u == t
  | _ => false

/-- The entry at a place of queue `t` leaves with a report; if it was in WAITING_LINE, the framer returns to IDLE
(R122, R125). -/
def State.withdrawEntry (s : State) (t : TxQueueId) (place : Nat) (r : ReportResult) : State :=
  let left := s.leaveWithReport t place r
  if s.headWaiting t && place == 0 then left.setTxFramer .idle else left

/-- TX_CANCEL at its owner (R122). -/
def txCancel (o : Operands) (s : State) : State × Result :=
  match txQueueArg o.a with
  | none => (s, .badArg)
  | some t =>
    match (s.txQueue t).placeOfTag o.b with
    | none => (s, .notFound)
    | some place =>
      if s.headSending t && place == 0 then (s, .inFlight)
      else ((s.withdrawEntry t place .cancelled).afterTransmit, .ok)

/-- The place of the oldest entry of queue `t` that is not SENDING (R125). -/
def State.oldestNotSending (s : State) (t : TxQueueId) : Nat := if s.headSending t then 1 else 0

/-- TX_CONFIG (R120). -/
def execTxConfig (s : State) : Host.Outcome State Fault Refusal := .next (shortCommand 0x40 txConfigure s)

/-- TX_CANCEL (R122). -/
def execTxCancel (s : State) : Host.Outcome State Fault Refusal := .next (shortCommand 0x44 txCancel s)

/-- TX_PAUSE (R121). -/
def execTxPause (s : State) : Host.Outcome State Fault Refusal := .next (shortCommand 0x45 txPause s)

/-- TX_START (R121). -/
def execTxStart (s : State) : Host.Outcome State Fault Refusal := .next (shortCommand 0x46 txStart s)

/-- TX_FLUSH: long; it completes at once when there is nothing to remove, and with BAD_ARG without BUSY for a queue
above 3 (R124, R158). -/
def execTxFlush (s : State) : Host.Outcome State Fault Refusal :=
  .next (s.unlessReset fun s =>
    if s.busy then s.refuseCommand
    else
      let taken := s.acceptCommand 0x47
      match txQueueArg taken.cmd.latch.a with
      | none => taken.completeCommand .badArg
      | some t =>
        ((taken.setTxQueue t { taken.txQueue t with flush := true }).startLong (.txFlush t)).completeTxFlush)

/-- TX_FLUSH_REMOVAL: a queue under flush removes its oldest entry that is not SENDING, with a FLUSHED report; then the
flush may complete and another queue's head be selected (R125, R132). -/
def execTxFlushRemoval (t : TxQueueId) (s : State) : Host.Outcome State Fault Refusal :=
  .next (s.unlessReset fun s =>
    if (s.txQueue t).flush then (s.withdrawEntry t (s.oldestNotSending t) .flushed).afterTransmit else s)

end Sys2Proof.Machine
end

