-- ==== Sys2Proof/Machine/TxFraming.lean ====
section
/-! DEFINITION. The transmit framer (08): attempts, byte acceptances, completion, abort and retry, the cut, LINE_TX,
and the pins it drives. -/

namespace Sys2Proof.Machine

/-! ### The packet being sent (R138, R139, R140) -/

/-- The header of an entry's attempts (R138). -/
def TxEntry.header (e : TxEntry) : Header :=
  { channel := e.channel, kind := e.kind, marker := e.marker, sequence := e.sequenceUsed.getD 0, length := e.length }

/-- The six payload bytes of an insert-time entry, fixed from the attempt's start stamp (R139). -/
def timeBytes (s : Stamp) : List Byte :=
  let c := s.time.coarse
  let f : Word := s.time.fine.setWidth 16
  [c.extractLsb' 24 8, c.extractLsb' 16 8, c.extractLsb' 8 8, c.extractLsb' 0 8, f.extractLsb' 8 8, f.extractLsb' 0 8]

/-- The payload bytes an attempt sends (R139). -/
def TxEntry.sentPayload (e : TxEntry) : List Byte :=
  if e.insertTime then
    match e.startStamp with
    | some s => timeBytes s
    | none => []
  else e.payload

/-- The byte at a position of the packet: header, payload, then the CRC register high byte first (R138, R139, R140). -/
def TxEntry.byteAt (e : TxEntry) (position : Nat) (crc : Word) : Byte :=
  if position ≤ 4 then (headerBytes e.header).getD (position - 1) 0
  else if position ≤ 4 + e.length.toNat then e.sentPayload.getD (position - 5) 0
  else if position = 5 + e.length.toNat then crc.extractLsb' 8 8
  else crc.extractLsb' 0 8

/-! ### Entries in flight -/

/-- Rewrite the head of queue `t`. -/
def State.setHead (s : State) (t : TxQueueId) (e : TxEntry) : State :=
  s.setTxQueue t { s.txQueue t with entries := e :: (s.txQueue t).entries.tail }

/-- LTRDY in WAITING_LINE: an attempt begins (R136). -/
def State.beginAttempt (s : State) (t : TxQueueId) (e : TxEntry) : State :=
  (s.setHead t
    { e with attempts := e.attempts + 1,
             sequenceUsed := some (e.sequenceUsed.getD (s.txSequenceOf e.channel)) }).setTxFramer
    (.sending { queue := t, position := 1, firstAccepted := false, crc := crcStart, cut := false })

/-- The result of a completed entry: SENT_LATE if it is timed and its start stamp is later than its deadline (R141). -/
def TxEntry.completionResult (e : TxEntry) (c : TxConfig) : ReportResult :=
  match e.deadline c, e.startStamp with
  | some d, some st => if d.before st.time then .sentLate else .sent
  | _, _ => .sent

/-- The acceptance of the last byte completes the entry: the transmit sequence table advances and the entry finishes
(R68, R141). -/
def State.completeEntry (s : State) (t : TxQueueId) (e : TxEntry) : State :=
  (s.setTxSequence e.channel (s.txSequenceOf e.channel + 1)).finishEntry t
    (e.completionResult (s.txQueue t).config)

/-- The cut ends: the entry is discarded without a report, its resources return, and the framer is IDLE; that may be
the return SOFT_RESET waits for (R147, R164). -/
def State.endCut (s : State) (t : TxQueueId) : State :=
  ((s.removeEntry t 0).setTxFramer .idle).completeSoftReset

/-- The entry as the acceptance of a byte leaves it: the start stamp is taken at position 1 (R140). -/
def TxEntry.accepted (e : TxEntry) (position : Nat) (now : Stamp) : TxEntry :=
  if position = 1 then { e with startStamp := some now } else e

/-- LTRDY in SENDING accepts the byte presented; at the last one the packet is complete (R140, R141). -/
def State.acceptByte (s : State) (a : Attempt) (e : TxEntry) : State :=
  let stamped := e.accepted a.position s.time.stamp
  let held := s.setHead a.queue stamped
  let crc := if a.position ≤ 4 + e.length.toNat then crcByte a.crc (stamped.byteAt a.position a.crc) else a.crc
  if a.position < expectedTotal e.length then
    held.setTxFramer
      (.sending { a with position := a.position + 1, firstAccepted := a.firstAccepted || a.position == 1, crc := crc })
  else (held.completeEntry a.queue stamped).afterTransmit

/-- LTRDY: the offer of the line in WAITING_LINE, the acceptance of a byte or the end of a cut in SENDING; ignored in
IDLE (R136, R140, R147). -/
def execLtrdy (s : State) : Host.Outcome State Fault Refusal :=
  .next (s.unlessReset fun s =>
    match s.txf.state with
    | .idle => s
    | .waitingLine t _ _ =>
      match (s.txQueue t).entries with
      | [] => s
      | e :: _ => (s.beginAttempt t e).afterTransmit
    | .sending a =>
      if a.cut then (s.endCut a.queue).afterTransmit
      else
        match (s.txQueue a.queue).entries with
        | [] => s
        | e :: _ => s.acceptByte a e)

/-- A retry is made within the retry limit if the entry may still go (R142). -/
def TxEntry.mayRetry (e : TxEntry) (c : TxConfig) (now : LinkTime) : Bool :=
  decide (e.attempts ≤ c.retryLimit) && (e.launch.isNone || decide (c.late = .sendLate) || !e.lateAt c now)

/-- A retry: WAITING_LINE again with the same entry, or its return to the queue head while LINE_TX is off (R142,
R144). -/
def State.retryEntry (s : State) (t : TxQueueId) : State :=
  if s.txf.lineTx then s.enterWaiting t else s.setTxFramer .idle

/-- LTABT: ends the attempt in SENDING with a retry or an ABORTED finish, or ends a cut; ignored in IDLE and
WAITING_LINE (R142, R143, R147). -/
def execLtabt (s : State) : Host.Outcome State Fault Refusal :=
  .next (s.unlessReset fun s =>
    match s.txf.state with
    | .idle | .waitingLine _ _ _ => s
    | .sending a =>
      if a.cut then (s.endCut a.queue).afterTransmit
      else
        match (s.txQueue a.queue).entries with
        | [] => s
        | e :: _ =>
          if e.mayRetry (s.txQueue a.queue).config s.time.now then (s.retryEntry a.queue).afterTransmit
          else (s.finishEntry a.queue .aborted).afterTransmit)

/-! ### LINE_TX (R144) -/

/-- LINE_TX off: an entry in WAITING_LINE returns to its queue head; SENDING goes on (R144). -/
def State.lineTxOff (s : State) : State :=
  let off := { s with txf := { s.txf with lineTx := false } }
  match s.txf.state with
  | .waitingLine _ _ _ => off.setTxFramer .idle
  | _ => off

/-- LINE_TX on, with the selection it makes possible (R132, R144). -/
def State.lineTxOn (s : State) : State := { s with txf := { s.txf with lineTx := true } }.afterTransmit

/-- LINE_TX at its owner (R144). -/
def lineTxSet (o : Operands) (s : State) : State × Result :=
  match choiceArg o.a with
  | none => (s, .badArg)
  | some on => (if on then s.lineTxOn else s.lineTxOff, .ok)

/-- LINE_TX (R144). -/
def execLineTx (s : State) : Host.Outcome State Fault Refusal := .next (shortCommand 0x48 lineTxSet s)

/-! ### SOFT_RESET at the framer (R147) and the pins -/

/-- SOFT_RESET at its acceptance: a WAITING_LINE entry is removed without a report and the framer is IDLE; a SENDING
entry is cut (R128, R147; log 13). -/
def State.softResetTransmit (s : State) : State :=
  match s.txf.state with
  | .idle => s
  | .waitingLine t _ _ => (s.removeEntry t 0).setTxFramer .idle
  | .sending a => s.setTxFramer (.sending { a with cut := true })

/-- The transmit pins: LTD7..LTD0 and the three strobes, true for asserted (R130, R140, R147). -/
structure TransmitPins where
  data : Byte
  sop : Bool
  eop : Bool
  kill : Bool
deriving DecidableEq, Repr

/-- What the framer presents to the transceiver: one byte of the in-flight packet in SENDING, nothing otherwise (R130,
R140, R147, R174). -/
def State.transmitPins (s : State) : TransmitPins :=
  let quiet : TransmitPins := { data := 0, sop := false, eop := false, kill := false }
  match s.inReset, s.txf.state with
  | false, .sending a =>
    match (s.txQueue a.queue).entries with
    | [] => quiet
    | e :: _ =>
      { data := e.byteAt a.position a.crc
        sop := a.position == 1
        eop := a.cut || a.position == expectedTotal e.length
        kill := a.cut }
  | _, _ => quiet

end Sys2Proof.Machine
end

