-- ==== Sys2Proof/Machine/Resets.lean ====
section
/-! DEFINITION. SOFT_RESET with its removals and its completion (10, SOFT_RESET), and the hardware reset pin (12). -/

namespace Sys2Proof.Machine

/-! ### SOFT_RESET (R162 to R164) -/

/-- The unit at the acceptance of SOFT_RESET: BUSY with SOFT_RESET running, REFUSED cleared (R162). -/
def State.softResetUnit (s : State) : State :=
  { s with cmd := { s.cmd with running := some .softReset, refused := false } }

/-- The global event status is cleared, the enables kept (R162, R171). -/
def State.clearEvents (s : State) : State := { s with irq := { s.irq with status := 0 } }

/-- Every receive queue at the acceptance (R95). -/
def State.softResetRxQueues (s : State) : State := { s with rxq := s.rxq.map RxQueue.softReset }

/-- The flush flags of the transmit queues at the acceptance (R128). -/
def State.softResetTxFlags (s : State) : State := { s with txq := s.txq.map fun x => { x with flush := false } }

/-- The report list is emptied; the report-lost counter is kept (R155). -/
def State.clearReports (s : State) : State := { s with reports := { s.reports with list := [] } }

/-- The one change of SOFT_RESET's acceptance, after the command unit has taken the command (R162). -/
def State.acceptSoftReset (s : State) : State :=
  s.softResetUnit.clearEvents.softResetFramer.closeWindow.softResetRxQueues.abandonStaging.softResetTxFlags
    |>.softResetTransmit.clearReports.completeSoftReset.afterTransmit

/-- SOFT_RESET: refused while BUSY like any command; else accepted, and completed at once when every holder is empty
(R158, R159, R162, R164). -/
def execSoftReset (s : State) : Host.Outcome State Fault Refusal :=
  .next (s.unlessReset fun s => if s.busy then s.refuseCommand else (s.acceptCommand 0x60).acceptSoftReset)

/-- SOFT_RESET_RX_REMOVAL: during SOFT_RESET a receive queue removes its head record (R95, R163, R164). -/
def execSoftResetRxRemoval (q : RxQueueId) (s : State) : Host.Outcome State Fault Refusal :=
  .next (s.unlessReset fun s =>
    if s.softResetting && !(s.rxQueue q).records.isEmpty then
      (s.removeHeadRecord q).completeSoftReset.afterTransmit
    else s)

/-- The oldest entry of queue `t` that is not SENDING leaves without a report; if it was in WAITING_LINE, the framer
returns to IDLE (R128). -/
def State.discardOldest (s : State) (t : TxQueueId) : State :=
  let left := s.removeEntry t (s.oldestNotSending t)
  if s.headWaiting t then left.setTxFramer .idle else left

/-- SOFT_RESET_TX_REMOVAL: during SOFT_RESET a transmit queue removes its oldest entry without a report; an entry that
is cut while SENDING is left to the framer (R128, R147, R163, R164). -/
def execSoftResetTxRemoval (t : TxQueueId) (s : State) : Host.Outcome State Fault Refusal :=
  .next (s.unlessReset fun s =>
    if s.softResetting && decide (s.oldestNotSending t < (s.txQueue t).entries.length) then
      (s.discardOldest t).completeSoftReset.afterTransmit
    else s)

/-! ### Hardware reset (R174) -/

/-- HARDWARE_RESET: RESET_N is asserted and holds every block in its hardware-reset state (R174). -/
def execHardwareReset (s : State) : Host.Outcome State Fault Refusal := .next (State.hardwareReset true s.pending)

/-- POWER_UP: the same state, held until RESET_N is released (R174). -/
def execPowerUp (s : State) : Host.Outcome State Fault Refusal := .next (State.hardwareReset true s.pending)

/-- RESET_N_RELEASE: the device leaves the held state and takes accesses, bytes and edges again (R174). -/
def execResetNRelease (s : State) : Host.Outcome State Fault Refusal := .next { s with inReset := false }

end Sys2Proof.Machine
end

