-- ==== Sys2Proof/Machine/HostPort.lean ====
section
/-! DEFINITION. The writes of the host port (12): the event words (11), the command status, and the words without
behaviour of their own. -/

namespace Sys2Proof.Machine

/-- EVT_STATUS_WRITE: clears each sticky event written with a one; the RXQ_ATTN position ignores the write (R166). -/
def execEvtStatusWrite (value : Word) (s : State) : Host.Outcome State Fault Refusal :=
  .next (s.unlessReset fun s => { s with irq := { s.irq with status := clearOnes s.irq.status value } })

/-- EVT_ENABLE_WRITE: the twelve enables, effective at once (R168). -/
def execEvtEnableWrite (value : Word) (s : State) : Host.Outcome State Fault Refusal :=
  .next (s.unlessReset fun s => { s with irq := { s.irq with enable := value.setWidth 12 } })

/-- Q_EVENTS_WRITE: clears events in the event set of the queue QSEL selects (R89, R176). -/
def execQEventsWrite (value : Word) (s : State) : Host.Outcome State Fault Refusal :=
  .next (s.unlessReset fun s =>
    let r := s.rxQueue s.host.qsel
    s.setRxQueue s.host.qsel { r with events := clearOnes r.events value })

/-- CMD_STATUS_WRITE: a one in the REFUSED position (bit 1) clears REFUSED (R160). -/
def execCmdStatusWrite (value : Word) (s : State) : Host.Outcome State Fault Refusal :=
  .next (s.unlessReset fun s => { s with cmd := { s.cmd with refused := clearFlag s.cmd.refused value 1 } })

/-- The effect of a write to a word without behaviour of its own: operand words and selectors keep the value, every
other word is read-only and ignores it (R173, R176, R177). -/
def State.storeWord (s : State) (addr : BitVec 6) (value : Word) : State :=
  if 0x01 ≤ addr.toNat ∧ addr.toNat ≤ 0x08 then
    { s with cmd := { s.cmd with operands := s.cmd.operands.put (addr.toNat - 1) value } }
  else if addr.toNat = 0x34 then
    { s with host := { s.host with qsel := ⟨value.toNat % 16, Nat.mod_lt _ (by decide)⟩ } }
  else if addr.toNat = 0x3A then
    { s with host := { s.host with tsel := ⟨value.toNat % 4, Nat.mod_lt _ (by decide)⟩ } }
  else if addr.toNat = 0x3E then { s with host := { s.host with auxSel := value.setWidth 6 } }
  else s

/-- An unknown code is accepted in IDLE and completes at once with UNKNOWN; no owner sees it (R161). -/
def completeUnknown (_ : Operands) (s : State) : State × Result := (s, .unknown)

/-- A write to CMD: the command its code names, or UNKNOWN (R156, R161, R178). -/
def writeCmd (code : Word) (s : State) : Host.Outcome State Fault Refusal :=
  match commandOfCode code with
  | some .timeSet => execTimeSet s
  | some .timeDivisor => execTimeDivisor s
  | some .timeAdjust => execTimeAdjust s
  | some .refPop => execRefPop s
  | some .poolConfig => execPoolConfig s
  | some .lineRx => execLineRx s
  | some .chWrite => execChWrite s
  | some .chRead => execChRead s
  | some .chSeqReset => execChSeqReset s
  | some .txSeqSet => execTxSeqSet s
  | some .rxConfig => execRxConfig s
  | some .rxWindow => execRxWindow s
  | some .rxEnable => execRxEnable s
  | some .rxDisable => execRxDisable s
  | some .rxRearm => execRxRearm s
  | some .rxAckBatch => execRxAckBatch s
  | some .rxResume => execRxResume s
  | some .rxFlush => execRxFlush s
  | some .rxOpen => execRxOpen s
  | some .rxRelease => execRxRelease s
  | some .rxClose => execRxClose s
  | some .txConfig => execTxConfig s
  | some .txBegin => execTxBegin s
  | some .txSubmit => execTxSubmit s
  | some .txAbandon => execTxAbandon s
  | some .txCancel => execTxCancel s
  | some .txPause => execTxPause s
  | some .txStart => execTxStart s
  | some .txFlush => execTxFlush s
  | some .lineTx => execLineTx s
  | some .reportPop => execReportPop s
  | some .softReset => execSoftReset s
  | _ => .next (shortCommand code completeUnknown s)

/-- UNKNOWN_COMMAND: the write to CMD of a code that names no command (R161). A code that names one is that command's
write (log 11). -/
def execUnknownCommand (code : Word) (s : State) : Host.Outcome State Fault Refusal := writeCmd code s

/-- REGISTER_WRITE: a host write of one word of the window (R173). A word whose write has a row of its own acts as that
row does (log 11). -/
def execRegisterWrite (addr : BitVec 6) (value : Word) (s : State) : Host.Outcome State Fault Refusal :=
  if addr = 0x00 then writeCmd value s
  else if addr = 0x0A then execCmdStatusWrite value s
  else if addr = 0x0B then execEvtStatusWrite value s
  else if addr = 0x0C then execEvtEnableWrite value s
  else if addr = 0x25 then execWinStatusWrite value s
  else if addr = 0x26 then execWinCtrlWrite value s
  else if addr = 0x27 then execDataPortWrite .processor value s
  else if addr = 0x28 then execStgStatusWrite value s
  else if addr = 0x38 then execQEventsWrite value s
  else .next (s.unlessReset fun s => s.storeWord addr value)

end Sys2Proof.Machine
end

