-- ==== Sys2Proof/Machine/Dispatch.lean ====
section
/-! DEFINITION. What each command does: one arm per row of the table. -/

namespace Sys2Proof.Machine

def exec (i : Instr) (s : State) : Host.Outcome State Fault Refusal :=
  match i with
  | .tclkEdge => Sys2Proof.Machine.execTclkEdge s
  | .coarseBoundary => Sys2Proof.Machine.execCoarseBoundary s
  | .startTimeReached q => Sys2Proof.Machine.execStartTimeReached q s
  | .stopTimeReached q => Sys2Proof.Machine.execStopTimeReached q s
  | .launchTimeReached t place => Sys2Proof.Machine.execLaunchTimeReached t place s
  | .deadlineExpiry => Sys2Proof.Machine.execDeadlineExpiry s
  | .lineByte data sop eop err => Sys2Proof.Machine.execLineByte data sop eop err s
  | .ltrdy => Sys2Proof.Machine.execLtrdy s
  | .ltabt => Sys2Proof.Machine.execLtabt s
  | .hardwareReset => Sys2Proof.Machine.execHardwareReset s
  | .powerUp => Sys2Proof.Machine.execPowerUp s
  | .dataPortRead via => Sys2Proof.Machine.execDataPortRead via s
  | .dataPortWrite via value => Sys2Proof.Machine.execDataPortWrite via value s
  | .timeCHiRead => Sys2Proof.Machine.execTimeCHiRead s
  | .evtStatusWrite value => Sys2Proof.Machine.execEvtStatusWrite value s
  | .evtEnableWrite value => Sys2Proof.Machine.execEvtEnableWrite value s
  | .qEventsWrite value => Sys2Proof.Machine.execQEventsWrite value s
  | .winStatusWrite value => Sys2Proof.Machine.execWinStatusWrite value s
  | .winCtrlWrite value => Sys2Proof.Machine.execWinCtrlWrite value s
  | .stgStatusWrite value => Sys2Proof.Machine.execStgStatusWrite value s
  | .cmdStatusWrite value => Sys2Proof.Machine.execCmdStatusWrite value s
  | .registerWrite addr value => Sys2Proof.Machine.execRegisterWrite addr value s
  | .timeSet => Sys2Proof.Machine.execTimeSet s
  | .timeDivisor => Sys2Proof.Machine.execTimeDivisor s
  | .timeAdjust => Sys2Proof.Machine.execTimeAdjust s
  | .refPop => Sys2Proof.Machine.execRefPop s
  | .poolConfig => Sys2Proof.Machine.execPoolConfig s
  | .lineRx => Sys2Proof.Machine.execLineRx s
  | .chWrite => Sys2Proof.Machine.execChWrite s
  | .chRead => Sys2Proof.Machine.execChRead s
  | .chSeqReset => Sys2Proof.Machine.execChSeqReset s
  | .txSeqSet => Sys2Proof.Machine.execTxSeqSet s
  | .rxConfig => Sys2Proof.Machine.execRxConfig s
  | .rxWindow => Sys2Proof.Machine.execRxWindow s
  | .rxEnable => Sys2Proof.Machine.execRxEnable s
  | .rxDisable => Sys2Proof.Machine.execRxDisable s
  | .rxRearm => Sys2Proof.Machine.execRxRearm s
  | .rxAckBatch => Sys2Proof.Machine.execRxAckBatch s
  | .rxResume => Sys2Proof.Machine.execRxResume s
  | .rxFlush => Sys2Proof.Machine.execRxFlush s
  | .rxFlushRemoval q => Sys2Proof.Machine.execRxFlushRemoval q s
  | .rxOpen => Sys2Proof.Machine.execRxOpen s
  | .rxRelease => Sys2Proof.Machine.execRxRelease s
  | .rxClose => Sys2Proof.Machine.execRxClose s
  | .txConfig => Sys2Proof.Machine.execTxConfig s
  | .txBegin => Sys2Proof.Machine.execTxBegin s
  | .txSubmit => Sys2Proof.Machine.execTxSubmit s
  | .txAbandon => Sys2Proof.Machine.execTxAbandon s
  | .txCancel => Sys2Proof.Machine.execTxCancel s
  | .txPause => Sys2Proof.Machine.execTxPause s
  | .txStart => Sys2Proof.Machine.execTxStart s
  | .txFlush => Sys2Proof.Machine.execTxFlush s
  | .txFlushRemoval t => Sys2Proof.Machine.execTxFlushRemoval t s
  | .lineTx => Sys2Proof.Machine.execLineTx s
  | .reportPop => Sys2Proof.Machine.execReportPop s
  | .softReset => Sys2Proof.Machine.execSoftReset s
  | .softResetRxRemoval q => Sys2Proof.Machine.execSoftResetRxRemoval q s
  | .softResetTxRemoval t => Sys2Proof.Machine.execSoftResetTxRemoval t s
  | .unknownCommand code => Sys2Proof.Machine.execUnknownCommand code s
  | .resetNRelease => Sys2Proof.Machine.execResetNRelease s

end Sys2Proof.Machine
end

