-- ==== Sys2Proof/Machine/Window.lean ====
section
/-! DEFINITION. What the host sees: every word of the register window and every AUX item as a read finds it (12), and
the outputs HINT_N and HDREQ (11). A read changes nothing (R173), but for DATA and TIME_C_HI, whose reads are rows of
their own. -/

namespace Sys2Proof.Machine

/-! ### Packing fields -/

/-- A number in a field of a word: `width` bits from bit `low` up. -/
def inField (n width low : Nat) : Word := BitVec.ofNat 16 (n % 2 ^ width * 2 ^ low)

/-- A flag in one bit of a word. -/
def inBit (b : Bool) (low : Nat) : Word := if b then inField 1 1 low else 0

/-- The fields of a word put together; their bits do not overlap. -/
def pack (fields : List Word) : Word := fields.foldl (· ||| ·) 0

/-- The upper word of a 32-bit value. -/
def upperWord (v : BitVec 32) : Word := v.extractLsb' 16 16

/-- The lower word of a 32-bit value. -/
def lowerWord (v : BitVec 32) : Word := v.extractLsb' 0 16

/-! ### Numbers of names (12) -/

/-- The number of a result code (12, Result Codes). -/
def Result.code : Result → Nat
  | .ok => 0
  | .unknown => 1
  | .badArg => 2
  | .wrongState => 3
  | .noSpace => 4
  | .queueFull => 5
  | .order => 6
  | .incomplete => 7
  | .notFound => 8
  | .inFlight => 9
  | .windowBusy => 10
  | .noWindow => 11
  | .noRecord => 12
  | .timeBusy => 13
  | .empty => 14

/-- The number of a report's result (12, Report Words). -/
def ReportResult.code : ReportResult → Nat
  | .sent => 0
  | .sentLate => 1
  | .lateDropped => 2
  | .aborted => 3
  | .cancelled => 4
  | .flushed => 5

/-- The number of a receive queue state (12, Register Map). -/
def RxQueueState.code : RxQueueState → Nat
  | .off => 0
  | .pending => 1
  | .run => 2
  | .grace => 3
  | .stopped _ => 4
  | .held _ => 5

/-- The number of a stop cause (12, Register Map). -/
def StopCause.code : StopCause → Nat
  | .batchDone => 0
  | .relayMissed => 1
  | .windowEnd => 2

/-- The number of a capture mode (12, AUX Items). -/
def RxMode.code : RxMode → Nat
  | .continuous => 0
  | .singleBatch => 1
  | .relayBatch => 2

/-- The number of a start condition (12, AUX Items). -/
def StartCondition.code : StartCondition → Nat
  | .now => 0
  | .atTime _ => 1
  | .atMarker => 2

/-- The number of a receive framer state (12, Register Map). -/
def RxFramerState.code : RxFramerState → Nat
  | .hunt => 0
  | .header _ => 1
  | .body _ => 2
  | .discard => 3

/-- The number of a transmit framer state (12, Register Map). -/
def TxFramerState.code : TxFramerState → Nat
  | .idle => 0
  | .waitingLine _ _ _ => 1
  | .sending _ => 2

/-! ### Words of single blocks -/

/-- The queue of the in-flight entry, if any (R146). -/
def TxFramerState.inFlightQueue : TxFramerState → Option TxQueueId
  | .idle => none
  | .waitingLine t _ _ => some t
  | .sending a => some a.queue

/-- CMD_STATUS (12, Register Map). -/
def State.cmdStatusWord (s : State) : Word :=
  pack [inBit s.busy 0, inBit s.cmd.refused 1, inBit s.cmd.last.isSome 2]

/-- RXQ_SUMMARY: bit q is set while queue q's event set is not empty (R167). -/
def State.rxqSummary (s : State) : Word :=
  pack ((List.finRange 16).map fun q => inBit (s.rxQueue q).hasEvents q.val)

/-- TB_STATUS (12, Register Map). -/
def State.tbStatusWord (s : State) : Word :=
  pack [inField s.time.divisor.toNat 13 0, inBit s.time.pendingDivisor.isSome 14, inBit s.time.pendingSet.isSome 15]

/-- REF_STATUS (12, Register Map). -/
def State.refStatusWord (s : State) : Word :=
  pack [inField s.time.refs.length 4 0, inField s.time.refOverwrites.toNat 8 8]

/-- REF0..REF6 of an entry (12, Reference Entry Words). -/
def RefEntry.words (e : RefEntry) : List Word :=
  [pack [inField e.channel.val 6 0, inField e.stamp.epoch.toNat 8 8], upperWord e.stamp.time.coarse,
   lowerWord e.stamp.time.coarse, e.stamp.time.fine.setWidth 16, upperWord e.remoteCoarse, lowerWord e.remoteCoarse,
   e.remoteFine]

/-- RD0..RD8 of a record (12, Receive Descriptor Words). -/
def RxRecord.words (r : RxRecord) : List Word :=
  [pack [inField r.queue.val 4 0, inField r.header.channel.val 6 4, inField r.header.kind.bits.toNat 2 10],
   pack [inField r.header.length.toNat 8 0, inField r.storedLength 8 8],
   pack [inBit r.flags.lineError 0, inBit r.flags.checkFail 1, inBit r.flags.truncated 2, inBit r.flags.earlyStart 3,
     inBit r.flags.overlong 4, inBit r.flags.duplicate 5, inBit r.gap.isSome 6, inBit r.header.marker 7,
     inField (r.gap.getD 0).toNat 4 8, inField r.header.sequence.toNat 4 12],
   r.stamp.epoch.setWidth 16, upperWord r.stamp.time.coarse, lowerWord r.stamp.time.coarse,
   r.stamp.time.fine.setWidth 16, r.lossBefore, r.arrival]

/-- REP0..REP5 of a report (12, Report Words); an absent item reads 0 (R154). -/
def Report.words (r : Report) : List Word :=
  let stamp := r.startStamp.getD ⟨0, LinkTime.zero⟩
  [r.tag,
   pack [inField r.queue.val 2 0, inField r.channel.val 6 2, inField r.result.code 3 8, inField r.attempts 4 11,
     inBit r.sequenceUsed.isSome 15],
   pack [inField (r.sequenceUsed.getD 0).toNat 4 0, inBit r.startStamp.isSome 7, inField stamp.epoch.toNat 8 8],
   upperWord stamp.time.coarse, lowerWord stamp.time.coarse, stamp.time.fine.setWidth 16]

/-- One of the words of an item, 0 while the item is absent. -/
def wordOf (words : Option (List Word)) (n : Nat) : Word := (words.getD []).getD n 0

/-- WIN_STATUS (R109; 12, Register Map). -/
def State.winStatusWord (s : State) : Word :=
  pack [inBit s.window.record.isSome 0, inBit s.window.readPastEnd 1, inBit s.window.noWindowRead 2,
    inBit (s.window.direction == .tx) 3,
    inField ((s.window.record.map fun w => w.queue.val).getD 0) 4 4,
    inField ((s.window.record.map fun w => w.offset).getD 0) 8 8]

/-- STG_STATUS (R127; 12, Register Map). -/
def State.stgStatusWord (s : State) : Word :=
  pack [inBit s.staging.record.isSome 0, inBit s.staging.writePastEnd 1, inBit s.staging.noWindowWrite 2,
    inField ((s.staging.record.map fun r => r.queue.val).getD 0) 2 4]

/-- STG_LEN: L and the write offset, 0 while CLOSED (R127; 12, Register Map). -/
def State.stgLenWord (s : State) : Word :=
  match s.staging.record with
  | none => 0
  | some r => pack [inField r.length.toNat 8 0, inField r.payload.length 8 8]

/-- POOL_HELD (R30; 12, Register Map). -/
def State.poolHeldWord (s : State) : Word :=
  pack [inField (s.fillingCells.getD 0) 3 0, inField ((s.staging.record.map StagingRecord.cells).getD 0) 3 4,
    inBit s.fillingCells.isSome 15]

/-- The watermark level: the record count is at or above the watermark (R88). -/
def RxQueue.watermarkLevel (r : RxQueue) : Bool := decide (r.config.watermark ≤ r.recordCount)

/-- Q_STATE of a queue (R94; 12, Register Map). -/
def RxQueue.stateWord (r : RxQueue) : Word :=
  let cause := match r.state with
    | .stopped c => pack [inBit true 4, inField c.code 2 5]
    | _ => 0
  let before := match r.state with
    | .held .run => inBit true 7
    | .held .grace => pack [inBit true 7, inBit true 8]
    | _ => 0
  pack [inField r.state.code 3 0, inBit r.flush 3, cause, before, inBit r.batchComplete 9, inBit r.watermarkLevel 10]

/-- T_STATUS of queue `t` (R127; 12, Register Map). -/
def State.txStatusWord (s : State) (t : TxQueueId) : Word :=
  let x := s.txQueue t
  pack [inBit x.paused 0, inBit x.flush 1, inBit (s.txf.state.inFlightQueue == some t) 2, inBit (s.headSending t) 3,
    inBit (!x.entries.isEmpty) 4]

/-- T_COUNTS of queue `t` (R127; 12, Register Map). -/
def State.txCountsWord (s : State) (t : TxQueueId) : Word :=
  pack [inField (s.txQueue t).entries.length 7 0, inField (s.txQueue t).cellCount 9 7]

/-- The attempts of the in-flight entry, 0 in IDLE (R146). -/
def State.inFlightAttempts (s : State) : Nat :=
  match s.txf.state.inFlightQueue with
  | none => 0
  | some t => (((s.txQueue t).entries.head?).map (·.attempts)).getD 0

/-- LINE_STATUS (R50, R146; 12, Register Map). -/
def State.lineStatusWord (s : State) : Word :=
  pack [inBit s.rxf.lineRx 0, inBit s.txf.lineTx 1, inField s.rxf.state.code 2 2, inField s.txf.state.code 2 4,
    inBit s.txf.state.inFlightQueue.isSome 6, inField ((s.txf.state.inFlightQueue.map (·.val)).getD 0) 2 7,
    inField s.inFlightAttempts 4 9]

/-- The start time of a window, 0:0 unless the start condition is AT_TIME (R73). -/
def RxWindow.startTime (w : RxWindow) : LinkTime :=
  match w.start with
  | .atTime t => t
  | _ => LinkTime.zero

/-- AUX_DATA: the item an index names, through QSEL or TSEL where it belongs to a queue (R177; 12, AUX Items). -/
def State.auxItem (s : State) (index : Nat) : Word :=
  let r := s.rxQueue s.host.qsel
  let x := s.txQueue s.host.tsel
  let stop := r.window.stop.getD LinkTime.zero
  let set := s.time.pendingSet.getD 0
  match index with
  | 0 => upperWord r.admitted
  | 1 => lowerWord r.admitted
  | 2 => upperWord r.lost
  | 3 => lowerWord r.lost
  | 4 => upperWord r.refused
  | 5 => lowerWord r.refused
  | 6 => upperWord r.rejected
  | 7 => lowerWord r.rejected
  | 8 => r.pendingLoss
  | 9 => r.batchCount
  | 10 => BitVec.ofNat 16 r.config.quota
  | 11 => pack [inField r.config.mode.code 2 0, inBit (r.config.overrun == .hold) 2, inField r.window.start.code 2 4,
      inBit r.window.stop.isSome 6]
  | 12 => r.config.batchSize
  | 13 => BitVec.ofNat 16 r.config.watermark
  | 14 => upperWord r.window.startTime.coarse
  | 15 => lowerWord r.window.startTime.coarse
  | 16 => r.window.startTime.fine.setWidth 16
  | 17 => upperWord stop.coarse
  | 18 => lowerWord stop.coarse
  | 19 => stop.fine.setWidth 16
  | 20 => BitVec.ofNat 16 x.config.depth
  | 21 => x.config.tolerance
  | 22 => pack [inBit (x.config.late == .dropLate) 0, inField x.config.retryLimit 3 4]
  | 23 => ((x.entries.head?).map (·.tag)).getD 0
  | 24 => BitVec.ofNat 16 s.pool.cellReserve
  | 25 => BitVec.ofNat 16 s.pool.descReserve
  | 26 => BitVec.ofNat 16 s.pool.lowThreshold
  | 27 => s.rxf.packetsSeen
  | 28 => s.rxf.headerErrors
  | 29 => s.rxf.strayBytes
  | 30 => s.rxf.unrouted
  | 31 => s.reports.lost
  | 32 => (s.time.pendingDivisor.getD 0).setWidth 16
  | 33 => upperWord set
  | 34 => lowerWord set
  | _ => 0

/-! ### The register window -/

/-- The value of the word at an address at this moment (R173; 12, Register Map); `hostRead` says when a read drives
it. For TIME_C_HI and DATA it is the word their acting reads return, from the state they find. -/
def State.readWord (s : State) (addr : BitVec 6) : Word :=
  let r := s.rxQueue s.host.qsel
  let n := addr.toNat
  if 0x01 ≤ n ∧ n ≤ 0x08 then s.cmd.operands.get (n - 1)
  else if 0x15 ≤ n ∧ n ≤ 0x1B then wordOf (s.time.refs.head?.map RefEntry.words) (n - 0x15)
  else if 0x1C ≤ n ∧ n ≤ 0x24 then wordOf (s.openRecord.map RxRecord.words) (n - 0x1C)
  else if 0x2B ≤ n ∧ n ≤ 0x30 then wordOf (s.reports.list.head?.map Report.words) (n - 0x2B)
  else match n with
  | 0x00 => s.cmd.last.getD 0
  | 0x09 => BitVec.ofNat 16 s.cmd.result.code
  | 0x0A => s.cmdStatusWord
  | 0x0B => s.eventStatus.setWidth 16
  | 0x0C => s.irq.enable.setWidth 16
  | 0x0D => s.rxqSummary
  | 0x0E => upperWord s.time.now.coarse
  | 0x0F => lowerWord s.host.snapshot.time.coarse
  | 0x10 => s.host.snapshot.time.fine.setWidth 16
  | 0x11 => s.host.snapshot.epoch.setWidth 16
  | 0x12 => s.tbStatusWord
  | 0x13 => BitVec.ofInt 16 s.time.slew
  | 0x14 => s.refStatusWord
  | 0x25 => s.winStatusWord
  | 0x26 => inBit (s.window.direction == .tx) 0
  | 0x27 => s.dataPortRead.host.lastRead.getD 0
  | 0x28 => s.stgStatusWord
  | 0x29 => s.stgLenWord
  | 0x2A => inField s.reports.list.length 6 0
  | 0x31 => BitVec.ofNat 16 s.pool.freeCells
  | 0x32 => BitVec.ofNat 16 s.pool.freeDescs
  | 0x33 => s.poolHeldWord
  | 0x34 => BitVec.ofNat 16 s.host.qsel.val
  | 0x35 => r.stateWord
  | 0x36 => BitVec.ofNat 16 r.recordCount
  | 0x37 => BitVec.ofNat 16 r.cellCount
  | 0x38 => r.events.setWidth 16
  | 0x39 => Config.deviceId
  | 0x3A => BitVec.ofNat 16 s.host.tsel.val
  | 0x3B => s.txStatusWord s.host.tsel
  | 0x3C => s.txCountsWord s.host.tsel
  | 0x3D => s.lineStatusWord
  | 0x3E => s.host.auxSel.setWidth 16
  | 0x3F => s.auxItem s.host.auxSel.toNat
  | _ => 0

/-- What a host read of an address finds on HD15..HD0: the word, or nothing while RESET_N is asserted, where host
accesses are ignored and HD15..HD0 are high-impedance (R173, R174). -/
def State.hostRead (s : State) (addr : BitVec 6) : Option Word := if s.inReset then none else some (s.readWord addr)

/-! ### HDREQ (R107, R126, R170) -/

/-- The receive rule: the read window is OPEN and its offset is below the stored length of the open record (R107). -/
def State.rxRequest (s : State) : Bool :=
  match s.window.record, s.openRecord with
  | some w, some rec => decide (w.offset < rec.storedLength)
  | _, _ => false

/-- The transmit rule: staging is OPEN and its write offset is below L (R126). -/
def State.txRequest (s : State) : Bool :=
  match s.staging.record with
  | some r => decide (r.payload.length < r.length.toNat)
  | none => false

/-- HDREQ: the rule of the selected direction, and released while RESET_N is asserted (R170, R172). -/
def State.hdreqAsserted (s : State) : Bool :=
  !s.inReset && (match s.window.direction with
    | .rx => s.rxRequest
    | .tx => s.txRequest)

end Sys2Proof.Machine
end

