-- ==== Sys2Proof/Safety.lean ====
section
/-! DEFINITION. What claims about the BX4 are stated in: the completion of a command as the host sees it, what the
pool's holders hold, and the invariants that the rules give the state. The block has no fault, so a safe run is one
whose states keep these invariants. -/

namespace Sys2Proof.Machine

/-! ### The command unit as a claim sees it -/

/-- A write to CMD is taken by the command unit: RESET_N is released and the unit is IDLE (R156, R174). -/
def State.takesCommands (s : State) : Prop := s.inReset = false ∧ s.cmd.running = none

/-- `s` with one command completed: the latch and last command as acceptance leaves them, RESULT, and CMD_DONE in bit
0 of the event status (R156, R157). -/
def State.doneWith (s : State) (code : Word) (r : Result) : State :=
  { s with cmd := { s.cmd with latch := s.cmd.operands, last := some code, result := r },
           irq := { s.irq with status := s.irq.status ||| 0x001 } }

/-- The transmitter cannot select: the framer is not IDLE, or LINE_TX is off (R132). -/
def State.TransmitterHolds (s : State) : Prop := s.txf.state ≠ .idle ∨ s.txf.lineTx = false

/-- Once the head of transmit queue `t` has left and `rest` is behind it, no head is a due candidate, or LINE_TX is off:
no selection follows (R132, R133). -/
def State.NothingFollows (s : State) (t : TxQueueId) (rest : List TxEntry) : Prop :=
  s.txf.lineTx = false ∨
    (({ s.txQueue t with entries := rest } : TxQueue).dueHead = none ∧ ∀ u, u ≠ t → (s.txQueue u).dueHead = none)

/-- The queue of a running TX_FLUSH still holds an entry that is not SENDING, so the flush cannot complete (R125). -/
def State.FlushHasWork (s : State) : Prop :=
  ∀ t, s.cmd.running = some (.txFlush t) → (s.txQueue t).entries ≠ [] ∧
    ((s.txQueue t).entries.length = 1 → ∀ a, s.txf.state = .sending a → a.queue ≠ t)

/-- No TX_FLUSH is running. -/
def State.NoTxFlush (s : State) : Prop := ∀ t, s.cmd.running ≠ some (.txFlush t)

/-- The commands written to CMD, with the code each is written with (12, Command Codes); an unknown code stands for
itself. -/
def commandCode : Instr → Option Word
  | .unknownCommand code => some code
  | c => (commandTable.find? fun row => row.2 == c).map (·.1)

/-! ### Words of the register window -/

/-- What a flag in bit `k` of a word adds to the word's value. -/
def flagAt (b : Bool) (k : Nat) : Nat := if b then 2 ^ k else 0

/-! ### What the holders hold (R18) -/

/-- Cells of the filling receive record, of the committed records, of staging and of the transmit entries. -/
def State.heldCells (s : State) : Nat :=
  s.fillingCells.getD 0 + (s.rxq.toList.map RxQueue.cellCount).sum +
    ((s.staging.record.map StagingRecord.cells).getD 0) + (s.txq.toList.map TxQueue.cellCount).sum

/-- Descriptors held in the same places: one each. -/
def State.heldDescs (s : State) : Nat :=
  (if s.fillingCells.isSome then 1 else 0) + (s.rxq.toList.map RxQueue.recordCount).sum +
    (if s.staging.record.isSome then 1 else 0) + s.entryTotal

/-- The payload written into the filling record's cells is the payload received so far, never more than L (R42, R44). -/
def State.FillingFits (s : State) : Prop :=
  match s.rxf.state with
  | .body p => 4 ≤ p.count ∧ ∀ bytes, p.storage = some bytes → bytes.length = p.storedLength
  | _ => True

/-- Cells and descriptors are conserved: free ones and held ones always total 1024 and 512 (R18). -/
def State.PoolConserved (s : State) : Prop :=
  s.pool.freeCells + s.heldCells = 1024 ∧ s.pool.freeDescs + s.heldDescs = 512

/-! ### Bounds (R1, R14, R18, R23, R119, R150) -/

/-- The time base keeps its ranges: D is 4..4096, the fine counter is below D and is 0 when a first edge is next,
slew remaining is within its range, and a pending divisor is in range (01; R1, R3, R6, R7). -/
def TimeBase.InRange (b : TimeBase) : Prop :=
  4 ≤ b.divisor.toNat ∧ b.divisor.toNat ≤ 4096 ∧ b.now.fine.toNat < b.divisor.toNat ∧
    (b.firstEdge = true → b.now.fine = 0) ∧ -32767 ≤ b.slew ∧ b.slew ≤ 32767 ∧
    ∀ d, b.pendingDivisor = some d → 4 ≤ d.toNat ∧ d.toNat ≤ 4096

/-- The reference list holds at most 8 entries and the report list at most 32 reports (R14, R150). -/
def State.ListsBounded (s : State) : Prop := s.time.refs.length ≤ 8 ∧ s.reports.list.length ≤ 32

/-- The committed records of a receive queue never hold more cells than its quota (R23). -/
def State.QuotasKept (s : State) : Prop := ∀ q, (s.rxQueue q).cellCount ≤ (s.rxQueue q).config.quota

/-- A transmit queue never holds more entries than its depth (R119). -/
def State.DepthsKept (s : State) : Prop := ∀ t, (s.txQueue t).entries.length ≤ (s.txQueue t).config.depth

/-- One entry may stand before another as far as launch times go. -/
def TxEntry.notAfter (a b : TxEntry) : Prop :=
  ∀ x y, a.launch = some x → b.launch = some y → y.before x = false

/-- The timed launch times of a transmit queue never decrease from head to tail (R119). -/
def State.LaunchesOrdered (s : State) : Prop := ∀ t, (s.txQueue t).entries.Pairwise TxEntry.notAfter

/-! ### Who is in flight, and what is open (R97, R130) -/

/-- The entry in flight is the head of its queue: that queue is not empty (R130). -/
def State.InFlightIsHead (s : State) : Prop :=
  ∀ t, s.txf.state.inFlightQueue = some t → (s.txQueue t).entries ≠ []

/-- The flush flags say which flush runs (R91, R92, R124, R125). -/
def State.FlushFlagsAgree (s : State) : Prop :=
  (∀ q, (s.rxQueue q).flush = true ↔ s.cmd.running = some (.rxFlush q)) ∧
    ∀ t, (s.txQueue t).flush = true ↔ s.cmd.running = some (.txFlush t)

/-- The open record is the head of its queue, and nothing that removes heads runs on that queue while it is open (R97,
R105, R106). -/
def State.OpenIsHead (s : State) : Prop :=
  ∀ w, s.window.record = some w →
    (s.rxQueue w.queue).records ≠ [] ∧ s.cmd.running ≠ some (.rxFlush w.queue) ∧ s.softResetting = false

/-- While a SOFT_RESET is in progress nothing can ask the pool for a reservation: every receive queue is OFF, the read
window and staging are CLOSED, no receive record is filling, and an entry in flight is one that is being cut; and
only then is an entry being cut (R163). -/
def State.SoftResetQuiet (s : State) : Prop :=
  (s.softResetting = true →
    (∀ q, (s.rxQueue q).state = .off) ∧ s.window.record = none ∧ s.staging.record = none ∧ s.fillingCells = none ∧
      ∀ t, s.txf.state.inFlightQueue = some t → ∃ a, s.txf.state = .sending a ∧ a.cut = true) ∧
  ∀ a, s.txf.state = .sending a → a.cut = true → s.softResetting = true

/-! ### Watchers (R76, R77, R131, R136) -/

/-- No watcher of link time is left unanswered: a start time or stop time that is still awaited lies ahead, so does
the launch time of an entry that is not due, and an armed deadline has not been passed, nor, after a backward set, has a
saturated one been reached (R12, R76, R77, R131, R136). Log 5 has every edge answer its watchers, log 6 says which receive
watchers are armed, and log 9 how R12's release of a saturated deadline is read. -/
def State.WatchersAhead (s : State) : Prop :=
  (∀ q T, (s.rxQueue q).startWatched = some T → s.time.now.before T = true) ∧
  (∀ q T, (s.rxQueue q).stopWatched = some T → (s.rxQueue q).state ≠ .stopped .windowEnd →
    s.time.now.before T = true) ∧
  (∀ t, ∀ e ∈ (s.txQueue t).entries, ∀ T, e.launch = some T → e.due = false → s.time.now.before T = true) ∧
  ∀ t e setBack, s.txf.state = .waitingLine t true setBack → (s.txQueue t).entries.head? = some e →
    e.releasedAt (s.txQueue t).config s.time.now setBack = false

/-- The transmitter does not wait for a further event while a head could be selected (R132, R133). -/
def State.NothingToSelect (s : State) : Prop := s.selects = none

/-! ### Batches (R80, R81) -/

/-- A queue in GRACE, or HELD with GRACE remembered, is in RELAY_BATCH mode with BC set; a queue that is PENDING, RUN
or HELD with RUN remembered has BC clear (R80, R81, R82). -/
def RxQueue.BatchAgrees (r : RxQueue) : Prop :=
  match r.state with
  | .grace | .held .grace => r.config.mode = .relayBatch ∧ r.batchComplete = true
  | .pending | .run | .held .run => r.batchComplete = false
  | .off | .stopped _ => True

/-- Every queue's batch state agrees with its BC (R80, R81). -/
def State.BatchesAgree (s : State) : Prop := ∀ q, (s.rxQueue q).BatchAgrees

/-! ### Attempts (R142) -/

/-- Only the head of a transmit queue has made attempts, and no more than the retry limit, but that the entry being
sent may have made one more; the retry limit is at most 7 (R120, R142). -/
def State.AttemptsBounded (s : State) : Prop :=
  ∀ t, (s.txQueue t).config.retryLimit ≤ 7 ∧ (∀ e ∈ (s.txQueue t).entries.tail, e.attempts = 0) ∧
    ∀ e, (s.txQueue t).entries.head? = some e →
      e.attempts ≤ (s.txQueue t).config.retryLimit + (if s.headSending t then 1 else 0)

end Sys2Proof.Machine
end

