-- ==== Sys2Proof/WellFormed.lean ====
section
/-! DEFINITION. Which values of `Instr` are instances of their row. The operands' types bound every other
operand. -/

namespace Sys2Proof

/-- The words of the register map whose write has a row of its own: CMD, CMD_STATUS, EVT_STATUS, EVT_ENABLE,
WIN_STATUS, WIN_CTRL, DATA, STG_STATUS, Q_EVENTS (12, Register Map; 95). -/
def hasOwnRow (addr : BitVec 6) : Bool :=
  addr ∈ ([0x00, 0x0A, 0x0B, 0x0C, 0x25, 0x26, 0x27, 0x28, 0x38] : List (BitVec 6))

/-- A command is an instance of its row: REGISTER_WRITE writes a word without behaviour of its own or a read-only
word, and UNKNOWN_COMMAND carries a code that names no command (R161, R173, R178). -/
def Instr.wellFormed : Instr → Bool
  | .registerWrite addr _ => !hasOwnRow addr
  | .unknownCommand code => (commandOfCode code).isNone
  | .tclkEdge | .coarseBoundary | .startTimeReached _ | .stopTimeReached _ | .launchTimeReached _ _
  | .deadlineExpiry | .lineByte _ _ _ _ | .ltrdy | .ltabt | .hardwareReset | .powerUp | .dataPortRead _
  | .dataPortWrite _ _ | .timeCHiRead | .evtStatusWrite _ | .evtEnableWrite _ | .qEventsWrite _
  | .winStatusWrite _ | .winCtrlWrite _ | .stgStatusWrite _ | .cmdStatusWrite _ | .timeSet | .timeDivisor
  | .timeAdjust | .refPop | .poolConfig | .lineRx | .chWrite | .chRead | .chSeqReset | .txSeqSet | .rxConfig
  | .rxWindow | .rxEnable | .rxDisable | .rxRearm | .rxAckBatch | .rxResume | .rxFlush | .rxFlushRemoval _
  | .rxOpen | .rxRelease | .rxClose | .txConfig | .txBegin | .txSubmit | .txAbandon | .txCancel | .txPause
  | .txStart | .txFlush | .txFlushRemoval _ | .lineTx | .reportPop | .softReset | .softResetRxRemoval _
  | .softResetTxRemoval _ | .resetNRelease => true

end Sys2Proof
end

