-- ==== Sys2Proof/Certificates/Slice0/Obligations.lean ====
section
/-! DEFINITION. The statements about the BX4 that the provers settle. A statement whose conclusion is
`exec c s = .next t` with `t` written as an update of `s` gives the command's frame as well: every field that the update
does not name is unchanged. -/

open Sys2Proof Sys2Proof.Machine

/-! ## The block as a machine -/

/-- A step takes the command at the front of the queue and runs it with the queue's rest; with none waiting it idles.
The queue is the model's own (log 2, log 18). -/
def Obligations.StepRunsFrontCommand : Prop :=
  (∀ s c rest, s.pending = c :: rest → step s = exec c { s with pending := rest }) ∧
    ∀ s, s.pending = [] → step s = .next s

/-- Every command takes a next state, and none touches the queue of waiting commands: the block has no fault and no
refusal (R157; log 2). -/
def Obligations.EveryCommandGoesOnAndKeepsTheQueue : Prop :=
  ∀ c s, ∃ t, exec c s = .next t ∧ t.pending = s.pending

/-- While RESET_N is asserted, every command but the three of the reset pin changes nothing, a host read drives nothing,
HINT_N and HDREQ are released, LTD7..LTD0 are 0 and the transmit strobes are released (R174). -/
def Obligations.HeldResetIgnoresEverything : Prop :=
  ∀ s, s.inReset = true →
    (∀ c, c ≠ .hardwareReset → c ≠ .powerUp → c ≠ .resetNRelease → exec c s = .next s) ∧
    (∀ addr, s.hostRead addr = none) ∧ s.hintAsserted = false ∧ s.hdreqAsserted = false ∧
    s.transmitPins = { data := 0, sop := false, eop := false, kill := false }

/-- Hardware reset and power-up put every block in its reset state, with everything of the pool free, nothing held and
no event raised (R31, R96, R129, and the values of R17, R52, R69, R110, R148, R155, R165, R172, R175, R177); the
release of RESET_N changes nothing else. -/
def Obligations.HardwareResetOfEveryBlock : Prop :=
  (∀ s, ∃ t, exec .hardwareReset s = .next t ∧ exec .powerUp s = .next t ∧ t.inReset = true ∧
    t.pool = { freeCells := 1024, freeDescs := 512, cellReserve := 64, descReserve := 16, lowThreshold := 128 } ∧
    t.fillingCells = none ∧ t.heldCells = 0 ∧ t.heldDescs = 0 ∧
    (∀ q, t.rxQueue q =
      { state := .off, flush := false,
        config := { mode := .continuous, batchSize := 1, overrun := .drop, quota := 64, watermark := 8 },
        window := { start := .now, stop := none }, batchCount := 0, batchComplete := false, pendingLoss := 0,
        admitted := 0, lost := 0, refused := 0, rejected := 0, records := [], events := 0 }) ∧
    t.staging = { record := none, writePastEnd := false, noWindowWrite := false } ∧
    (∀ u, t.txQueue u =
      { paused := false, flush := false,
        config := { depth := 16, tolerance := 0, late := .sendLate, retryLimit := 3 }, entries := [] }) ∧
    t.reports = { list := [], lost := 0 } ∧ t.host.qsel = 0 ∧ t.host.tsel = 0 ∧ t.host.auxSel = 0 ∧
    t.host.snapshot = ⟨0, ⟨0, 0⟩⟩ ∧
    t.time = { now := ⟨0, 0⟩, epoch := 0, divisor := 1000, pendingSet := none, pendingDivisor := none, slew := 0,
               firstEdge := true, refs := [], refOverwrites := 0 } ∧
    t.rxf = { state := .hunt, lineRx := false, packetsSeen := 0, headerErrors := 0, strayBytes := 0, unrouted := 0 } ∧
    (∀ c, t.channel c =
      { config := { action := .drop, queue := 0, errored := .keep, check := .keep, duplicate := .keep,
                    sequenceCheck := false, reference := false },
        lastSequence := none, duplicatesDropped := 0 }) ∧
    (∀ c, t.txSequenceOf c = 0) ∧
    t.window = { record := none, readPastEnd := false, noWindowRead := false, direction := .rx } ∧
    t.txf = { state := .idle, lineTx := false } ∧
    t.cmd.running = none ∧ t.cmd.result = .ok ∧ t.cmd.refused = false ∧ t.cmd.last = none ∧
    (∀ n, t.cmd.operands.get n = 0 ∧ t.cmd.latch.get n = 0) ∧
    t.irq = { status := 0, enable := 0 } ∧ t.hintAsserted = false ∧ t.hdreqAsserted = false) ∧
  ∀ s, exec .resetNRelease s = .next { s with inReset := false }

/-! ## The command unit (10) -/

/-- A write of any code to CMD while the unit is BUSY is refused: REFUSED is set, CMD_REFUSED is raised, and nothing
else changes (R159). -/
def Obligations.BusyUnitRefusesEveryCommand : Prop :=
  ∀ c code s l, commandCode c = some code → s.inReset = false → s.cmd.running = some l →
    exec c s =
      .next { s with cmd := { s.cmd with refused := true }, irq := { s.irq with status := s.irq.status ||| 0x002 } }

/-- A code that names no command completes at once with UNKNOWN in IDLE, with nothing changed but the latch, last
command, RESULT and CMD_DONE; in BUSY it is refused (R161). -/
def Obligations.UnknownCodeCompletesWithUnknown : Prop :=
  ∀ code s, commandOfCode code = none → s.inReset = false →
    (s.cmd.running = none → exec (.unknownCommand code) s = .next (s.doneWith code .unknown)) ∧
    ∀ l, s.cmd.running = some l →
      exec (.unknownCommand code) s =
        .next { s with cmd := { s.cmd with refused := true }, irq := { s.irq with status := s.irq.status ||| 0x002 } }

/-- A receive queue above 15, a transmit queue above 3 or a channel above 63 in OPA refuses each command that takes
one with BAD_ARG, and nothing else changes; a flush completes so without BUSY (R53 to R55, R67, R72 to R75, R82, R84,
R86, R91, R98, R120 to R122, R124, R158). -/
def Obligations.NumberOutOfRangeIsBadArg : Prop :=
  ∀ s, s.takesCommands →
    (15 < s.cmd.operands.a.toNat →
      exec .rxConfig s = .next (s.doneWith 0x30 .badArg) ∧ exec .rxWindow s = .next (s.doneWith 0x31 .badArg) ∧
      exec .rxEnable s = .next (s.doneWith 0x32 .badArg) ∧ exec .rxDisable s = .next (s.doneWith 0x33 .badArg) ∧
      exec .rxRearm s = .next (s.doneWith 0x34 .badArg) ∧ exec .rxAckBatch s = .next (s.doneWith 0x35 .badArg) ∧
      exec .rxResume s = .next (s.doneWith 0x36 .badArg) ∧ exec .rxFlush s = .next (s.doneWith 0x37 .badArg) ∧
      exec .rxOpen s = .next (s.doneWith 0x38 .badArg)) ∧
    (3 < s.cmd.operands.a.toNat →
      exec .txConfig s = .next (s.doneWith 0x40 .badArg) ∧ exec .txCancel s = .next (s.doneWith 0x44 .badArg) ∧
      exec .txPause s = .next (s.doneWith 0x45 .badArg) ∧ exec .txStart s = .next (s.doneWith 0x46 .badArg) ∧
      exec .txFlush s = .next (s.doneWith 0x47 .badArg)) ∧
    (63 < s.cmd.operands.a.toNat →
      exec .chWrite s = .next (s.doneWith 0x28 .badArg) ∧ exec .chRead s = .next (s.doneWith 0x29 .badArg) ∧
      exec .chSeqReset s = .next (s.doneWith 0x2A .badArg) ∧ exec .txSeqSet s = .next (s.doneWith 0x2B .badArg))

/-! ## Link time (01) -/

/-- TIME_SET records its value as the pending set; TIME_DIVISOR records a divisor of 4..4096 and refuses every other
with BAD_ARG; TIME_ADJUST makes its checks in order: -32768 is BAD_ARG, a slew in progress TIME_BUSY, 0 changes
nothing, and any other amount becomes slew remaining (R5, R6, R7). -/
def Obligations.TimeCommandsBecomePending : Prop :=
  ∀ s, s.takesCommands →
    exec .timeSet s = .next
      (({ s with time := { s.time with pendingSet := some (s.cmd.operands.a ++ s.cmd.operands.b) } } : State).doneWith
        0x10 .ok) ∧
    (∀ d : BitVec 13, 4 ≤ d.toNat → d.toNat ≤ 4096 → s.cmd.operands.a.toNat = d.toNat →
      exec .timeDivisor s = .next
        (({ s with time := { s.time with pendingDivisor := some d } } : State).doneWith 0x11 .ok)) ∧
    ((s.cmd.operands.a.toNat < 4 ∨ 4096 < s.cmd.operands.a.toNat) →
      exec .timeDivisor s = .next (s.doneWith 0x11 .badArg)) ∧
    (s.cmd.operands.a = 0x8000 → exec .timeAdjust s = .next (s.doneWith 0x12 .badArg)) ∧
    (s.cmd.operands.a ≠ 0x8000 → s.time.slew ≠ 0 → exec .timeAdjust s = .next (s.doneWith 0x12 .timeBusy)) ∧
    (s.cmd.operands.a = 0 → s.time.slew = 0 → exec .timeAdjust s = .next (s.doneWith 0x12 .ok)) ∧
    (s.cmd.operands.a ≠ 0x8000 → s.cmd.operands.a ≠ 0 → s.time.slew = 0 →
      exec .timeAdjust s = .next
        (({ s with time := { s.time with slew := s.cmd.operands.a.toInt } } : State).doneWith 0x12 .ok))

/-- An edge that is no boundary advances the fine counter by one, but a first edge with slew remaining takes a slew step,
and the step that ends the slew raises SLEW_DONE; the change of link time then does what LaunchAndDeadlineWatchers and
ReceiveQueuesStartAndStopInLinkTime say of it. Where it reaches no watcher, the time base alone changes, whatever command
is running (R1, R3, R8). -/
def Obligations.CountingEdgeChangesOnlyTheTimeBase : Prop :=
  ∀ (s : State) (b : TimeBase) (v : BitVec 12), s.inReset = false →
    s.time.now.fine.toNat + 1 ≠ s.time.divisor.toNat →
    ((s.time.firstEdge = false ∨ s.time.slew = 0) →
      b = { s.time with now := ⟨s.time.now.coarse, s.time.now.fine + 1⟩, firstEdge := false } ∧ v = s.irq.status) →
    (s.time.firstEdge = true → 0 < s.time.slew →
      b = { s.time with now := ⟨s.time.now.coarse, 2⟩, slew := s.time.slew - 1, firstEdge := false } ∧
      v = if s.time.slew = 1 then s.irq.status ||| 0x040 else s.irq.status) →
    (s.time.firstEdge = true → s.time.slew < 0 →
      b = { s.time with slew := s.time.slew + 1, firstEdge := false } ∧
      v = if s.time.slew = -1 then s.irq.status ||| 0x040 else s.irq.status) →
    let x : State := { s with time := b, irq := { s.irq with status := v } }
    exec .tclkEdge s = .next (x.timeChange s.time.now b.now) ∧
      (x.WatchersAhead → s.NothingToSelect → s.FlushHasWork → exec .tclkEdge s = .next x)

/-- A coarse boundary applies a pending set or advances the coarse counter, counts a wrap or a set in the epoch, applies a
pending divisor, and raises TIME_APPLIED when something pending applied; the change of link time then does what
LaunchAndDeadlineWatchers and ReceiveQueuesStartAndStopInLinkTime say of it. Where it reaches no watcher, the time base
alone changes, whatever command is running. TCLK_EDGE and COARSE_BOUNDARY are the same edge there. An armed deadline
watcher notes a set that moves link time backward (R1, R2, R4, R9, R11; R12's release as log 9 reads it). -/
def Obligations.BoundaryAppliesWhatIsPending : Prop :=
  ∀ (s : State) (b : TimeBase) c, s.inReset = false → s.time.now.fine.toNat + 1 = s.time.divisor.toNat →
    (∀ v, s.time.pendingSet = some v →
      b = { s.time with now := ⟨v, 0⟩, epoch := s.time.epoch + 1, slew := 0, pendingSet := none,
                        divisor := s.time.pendingDivisor.getD s.time.divisor, pendingDivisor := none,
                        firstEdge := true }) →
    (s.time.pendingSet = none →
      b = { s.time with now := ⟨s.time.now.coarse + 1, 0⟩,
                        epoch := if s.time.now.coarse = 0xFFFFFFFF then s.time.epoch + 1 else s.time.epoch,
                        divisor := s.time.pendingDivisor.getD s.time.divisor, pendingDivisor := none,
                        firstEdge := true }) →
    (c = .tclkEdge ∨ c = .coarseBoundary) →
    let framer : TxFramerState := match s.txf.state, s.time.pendingSet with
      | .waitingLine t true setBack, some v => .waitingLine t true (setBack || !s.time.now.before ⟨v, 0⟩)
      | other, _ => other
    let x : State :=
      { s with time := b
               txf := { s.txf with state := framer }
               irq := { s.irq with
                 status := if s.time.pendingSet = none ∧ s.time.pendingDivisor = none then s.irq.status
                           else s.irq.status ||| 0x020 } }
    exec c s = .next (x.timeChange s.time.now b.now) ∧
      (x.WatchersAhead → s.NothingToSelect → s.FlushHasWork → exec c s = .next x)

/-- An edge acts on each receive queue whose start or stop time the change of link time reaches: a PENDING queue
becomes RUN with STARTED, a queue whose stop time is reached goes STOPPED with WINDOW_END, and a queue that both times
reach takes both transitions, start first; every other queue is unchanged. The two rows of the watchers are the owner's
transition once link time has reached the time (R11, R76, R77, R78; log 5 says why they exist beside the edges). -/
def Obligations.ReceiveQueuesStartAndStopInLinkTime : Prop :=
  (∀ s q, s.inReset = false →
    (∀ T, (s.rxQueue q).state = .pending → (s.rxQueue q).window.start = .atTime T → s.time.now.before T = false →
      exec (.startTimeReached q) s = .next
        (s.setRxQueue q { s.rxQueue q with state := .run, events := (s.rxQueue q).events ||| 0x01 })) ∧
    ∀ T, (s.rxQueue q).state ≠ .off → (s.rxQueue q).window.stop = some T → s.time.now.before T = false →
      exec (.stopTimeReached q) s = .next
        (if (s.rxQueue q).state = .stopped .windowEnd then s
         else s.setRxQueue q
          { s.rxQueue q with state := .stopped .windowEnd, events := (s.rxQueue q).events ||| 0x20 })) ∧
  ∀ s c, (c = .tclkEdge ∨ c = .coarseBoundary) → s.inReset = false →
    ∃ t, exec c s = .next t ∧ ∀ q,
      let r := s.rxQueue q
      let starts : Prop := ∃ T, r.state = .pending ∧ r.window.start = .atTime T ∧ s.time.now.before T = true ∧
        t.time.now.before T = false
      let stops : Prop := ∃ S, r.state ≠ .off ∧ r.window.stop = some S ∧ s.time.now.before S = true ∧
        t.time.now.before S = false
      (starts → ¬stops → t.rxQueue q = { r with state := .run, events := r.events ||| 0x01 }) ∧
      (starts → stops → t.rxQueue q = { r with state := .stopped .windowEnd, events := r.events ||| 0x21 }) ∧
      (¬starts → stops → r.state ≠ .stopped .windowEnd →
        t.rxQueue q = { r with state := .stopped .windowEnd, events := r.events ||| 0x20 }) ∧
      (¬starts → (¬stops ∨ r.state = .stopped .windowEnd) → t.rxQueue q = r)

/-- A read of TIME_C_HI captures the whole snapshot from one state of the time base and returns the upper half of the
captured coarse value; the other three words then read the capture (R175). The word returned is stated as `lastRead`, the
model's own field (log 3). -/
def Obligations.TimeReadCapturesTheSnapshot : Prop :=
  ∀ s, s.inReset = false → ∃ t, exec .timeCHiRead s = .next t ∧
    t = { s with host := { s.host with snapshot := ⟨s.time.epoch, s.time.now⟩
                                       lastRead := some (s.time.now.coarse.extractLsb' 16 16) } } ∧
    t.readWord 0x0F = s.time.now.coarse.extractLsb' 0 16 ∧ t.readWord 0x10 = s.time.now.fine.setWidth 16 ∧
    t.readWord 0x11 = s.time.epoch.setWidth 16

/-- REF_POP removes the oldest entry of the reference list, and REPORT_POP the oldest report; on an empty list each is
refused with EMPTY. Neither raises an event beside CMD_DONE. REF0..REF6 and REP0..REP5 read the oldest entry and report,
and 0 while there is none; REF_STATUS and REP_STATUS read the counts (R15, R16, R153, R154). -/
def Obligations.PopsRemoveTheOldest : Prop :=
  (∀ s, s.takesCommands →
    (s.time.refs = [] → exec .refPop s = .next (s.doneWith 0x13 .empty)) ∧
    (∀ e rest, s.time.refs = e :: rest →
      exec .refPop s = .next (({ s with time := { s.time with refs := rest } } : State).doneWith 0x13 .ok)) ∧
    (s.reports.list = [] → exec .reportPop s = .next (s.doneWith 0x50 .empty)) ∧
    ∀ r rest, s.reports.list = r :: rest →
      exec .reportPop s = .next (({ s with reports := { s.reports with list := rest } } : State).doneWith 0x50 .ok)) ∧
  ∀ s : State,
    (s.time.refs = [] → ∀ a : BitVec 6, 0x15 ≤ a.toNat → a.toNat ≤ 0x1B → s.readWord a = 0) ∧
    (∀ e rest, s.time.refs = e :: rest →
      (s.readWord 0x15).toNat = e.channel.val + 256 * e.stamp.epoch.toNat ∧
      s.readWord 0x16 ++ s.readWord 0x17 = e.stamp.time.coarse ∧ s.readWord 0x18 = e.stamp.time.fine.setWidth 16 ∧
      s.readWord 0x19 ++ s.readWord 0x1A = e.remoteCoarse ∧ s.readWord 0x1B = e.remoteFine) ∧
    (s.readWord 0x14).toNat = s.time.refs.length % 16 + 256 * s.time.refOverwrites.toNat ∧
    (s.reports.list = [] → ∀ a : BitVec 6, 0x2B ≤ a.toNat → a.toNat ≤ 0x30 → s.readWord a = 0) ∧
    (∀ r rest, s.reports.list = r :: rest →
      s.readWord 0x2B = r.tag ∧
      (s.readWord 0x2C).toNat = r.queue.val + 4 * r.channel.val +
        256 * (match r.result with
          | .sent => 0 | .sentLate => 1 | .lateDropped => 2 | .aborted => 3 | .cancelled => 4 | .flushed => 5) +
        2048 * (r.attempts % 16) + flagAt r.sequenceUsed.isSome 15 ∧
      (s.readWord 0x2D).toNat = (match r.sequenceUsed with | some n => n.toNat | none => 0) +
        (match r.startStamp with | some st => 128 + 256 * st.epoch.toNat | none => 0) ∧
      s.readWord 0x2E ++ s.readWord 0x2F = (r.startStamp.map fun st => st.time.coarse).getD 0 ∧
      s.readWord 0x30 = (match r.startStamp with | some st => st.time.fine.setWidth 16 | none => 0)) ∧
    (s.readWord 0x2A).toNat = s.reports.list.length % 64

/-- Link time passes a time exactly when a change takes it from at or below the time to above it, so the saturated
value is never passed; and a sum is the exact one while it fits and the saturated value otherwise. A watcher that waits
to pass a time is released by passing it alone, but that of the saturated value, once a backward set has been applied, is
released by the change that reaches that value, although link time does not pass it there (R12; log 9 says how R12's
last clause is read). -/
def Obligations.PassingATimeAndSaturatedSums : Prop :=
  (∀ T old new : LinkTime, T.passedBy old new = true ↔ (T.before old = false ∧ T.before new = true)) ∧
  (∀ old new : LinkTime, LinkTime.last.passedBy old new = false) ∧
  (∀ T old new : LinkTime, T.releasedBy old new false = T.passedBy old new ∧
    (T ≠ ⟨4294967295, 4095⟩ → T.releasedBy old new true = T.passedBy old new)) ∧
  (∀ old new : LinkTime, LinkTime.last.releasedBy old new true = true ↔
    (old.before ⟨4294967295, 4095⟩ = true ∧ new.before ⟨4294967295, 4095⟩ = false)) ∧
  ∀ (T : LinkTime) (n : Word),
    (T.coarse.toNat + n.toNat ≤ 4294967295 →
      (T.addTicks n).coarse.toNat = T.coarse.toNat + n.toNat ∧ (T.addTicks n).fine = T.fine) ∧
    (4294967295 < T.coarse.toNat + n.toNat → T.addTicks n = ⟨4294967295, 4095⟩)

/-! ## The pool (02) -/

/-- A receive reservation is granted when its three conditions hold, with the differences taken as signed integers, and
the first that fails is the reason of the refusal; a packet of L = 0, which asks for no cells, passes the second and the
third whatever the quota and however few cells are free (R20). -/
def Obligations.ReceiveReservationConditions : Prop :=
  ∀ (s : State) (q : RxQueueId) (h : Header) (c : Nat), c = cellsFor h.length.toNat →
    let descs : Prop := (s.pool.freeDescs : Int) - 1 ≥ s.pool.descReserve
    let quota : Prop := h.length = 0 ∨ (s.rxQueue q).cellCount + c ≤ (s.rxQueue q).config.quota
    let cells : Prop := h.length = 0 ∨ (s.pool.freeCells : Int) - c ≥ s.pool.cellReserve
    let answer := rxReservationRefusal s.pool (s.rxQueue q).cellCount (s.rxQueue q).config.quota c
    (answer = none ↔ descs ∧ quota ∧ cells) ∧ (answer = some .noDescriptor ↔ ¬descs) ∧
    (answer = some .quota ↔ descs ∧ ¬quota) ∧ (answer = some .noCells ↔ descs ∧ quota ∧ ¬cells) ∧
    ((s.reserveFor q h).2 = .admitted ↔ descs ∧ quota ∧ cells)

/-- The cells of a declared length, by the table of R19; and a TX_BEGIN that passes its checks takes one descriptor
and that many cells, becomes the staging record, and raises POOL_LOW when the free cells fall below the threshold
(R19, R24, R28, R112, R113). -/
def Obligations.TxBeginReservesAndOpensStaging : Prop :=
  (∀ L : Byte, cellsFor L.toNat =
    if L.toNat = 0 then 0 else if L.toNat ≤ 64 then 1 else if L.toNat ≤ 128 then 2 else if L.toNat ≤ 192 then 3
    else 4) ∧
  ∀ s, s.takesCommands →
    (s.staging.record ≠ none → exec .txBegin s = .next (s.doneWith 0x41 .windowBusy)) ∧
    (s.staging.record = none → (3 < s.cmd.operands.a.toNat ∨ 63 < s.cmd.operands.b.toNat ∨
        s.cmd.operands.c.extractLsb' 0 2 = 3 ∨ 255 < s.cmd.operands.d.toNat ∨
        (s.cmd.operands.c.getLsbD 6 = true ∧ 4095 < s.cmd.operands.g.toNat)) →
      exec .txBegin s = .next (s.doneWith 0x41 .badArg)) ∧
    ∀ t c k L, s.staging.record = none → s.cmd.operands.a.toNat = Fin.val t → s.cmd.operands.b.toNat = Fin.val c →
      s.cmd.operands.c.extractLsb' 0 2 = Kind.bits k → s.cmd.operands.d.toNat = BitVec.toNat L →
      (s.cmd.operands.c.getLsbD 6 = true → s.cmd.operands.g.toNat ≤ 4095) →
      (s.cmd.operands.c.getLsbD 5 = true → ¬(k = .time ∧ L.toNat = 6) →
        exec .txBegin s = .next (s.doneWith 0x41 .badArg)) ∧
      ((s.cmd.operands.c.getLsbD 5 = true → k = .time ∧ L.toNat = 6) →
        (s.pool.freeDescs = 0 ∨ s.pool.freeCells < cellsFor L.toNat →
          exec .txBegin s = .next (s.doneWith 0x41 .noSpace)) ∧
        (1 ≤ s.pool.freeDescs → cellsFor L.toNat ≤ s.pool.freeCells →
          exec .txBegin s = .next
            (({ s with
                staging := { s.staging with
                  record := some
                    { queue := t, channel := c, kind := k, marker := s.cmd.operands.c.getLsbD 4,
                      insertTime := s.cmd.operands.c.getLsbD 5, length := L,
                      launch := if s.cmd.operands.c.getLsbD 6 = true then
                          some ⟨s.cmd.operands.e ++ s.cmd.operands.f, s.cmd.operands.g.setWidth 12⟩ else none,
                      tag := s.cmd.operands.h, payload := [] }
                  writePastEnd := false }
                pool := { s.pool with freeCells := s.pool.freeCells - cellsFor L.toNat
                                      freeDescs := s.pool.freeDescs - 1 }
                irq := { s.irq with
                  status := if s.pool.lowThreshold ≤ s.pool.freeCells ∧
                      s.pool.freeCells - cellsFor L.toNat < s.pool.lowThreshold
                    then s.irq.status ||| 0x100 else s.irq.status } } : State).doneWith 0x41 .ok)))

/-- POOL_CONFIG changes its three values together, or none of them when an operand is out of its range, and raises
POOL_LOW when the free cells were at or above the old threshold and are below the new one (R28, R29). -/
def Obligations.PoolConfigChangesThreeValuesTogether : Prop :=
  ∀ s, s.takesCommands →
    (s.cmd.operands.a.toNat ≤ 1024 → s.cmd.operands.b.toNat ≤ 512 → s.cmd.operands.c.toNat ≤ 1024 →
      exec .poolConfig s = .next
        (({ s with
            pool := { s.pool with cellReserve := s.cmd.operands.a.toNat, descReserve := s.cmd.operands.b.toNat,
                                  lowThreshold := s.cmd.operands.c.toNat }
            irq := { s.irq with
              status := if s.pool.lowThreshold ≤ s.pool.freeCells ∧ s.pool.freeCells < s.cmd.operands.c.toNat
                then s.irq.status ||| 0x100 else s.irq.status } } : State).doneWith 0x18 .ok)) ∧
    ((1024 < s.cmd.operands.a.toNat ∨ 512 < s.cmd.operands.b.toNat ∨ 1024 < s.cmd.operands.c.toNat) →
      exec .poolConfig s = .next (s.doneWith 0x18 .badArg))

/-! ## Receive framing (03) -/

/-- Outside a packet a byte without LRSOP does no more than count as a stray byte in HUNT, whatever its other strobes,
or pass in DISCARD, which its LREOP ends; a byte with LRSOP in DISCARD is taken as in HUNT (R38). -/
def Obligations.BytesOutsideAPacket : Prop :=
  ∀ s data eop err, s.inReset = false → s.rxf.lineRx = true →
    (s.rxf.state = .hunt →
      exec (.lineByte data false eop err) s = .next
        { s with rxf := { s.rxf with
            strayBytes := if s.rxf.strayBytes = 0xFFFF then 0xFFFF else s.rxf.strayBytes + 1 } }) ∧
    (s.rxf.state = .discard → eop = false → exec (.lineByte data false eop err) s = .next s) ∧
    (s.rxf.state = .discard → eop = true →
      exec (.lineByte data false eop err) s = .next { s with rxf := { s.rxf with state := .hunt } }) ∧
    (s.rxf.state = .discard →
      exec (.lineByte data true eop err) s =
        exec (.lineByte data true eop err) { s with rxf := { s.rxf with state := .hunt } })

/-- A byte with LRSOP begins a packet in HUNT, DISCARD and HEADER: it takes the stamp and the arrival number and
starts the CRC register; with LREOP it is a header error at once; and in HEADER the packet in progress is a header
error first (R37, R47). -/
def Obligations.StartByteBeginsAPacket : Prop :=
  ∀ s data err, s.inReset = false → s.rxf.lineRx = true →
    let seen := s.rxf.packetsSeen + 1
    let fresh : RxFramerState :=
      .header { stamp := ⟨s.time.epoch, s.time.now⟩, arrival := seen, bytes := [data], lineError := err,
                crc := crcByte 0xFFFF data }
    ((s.rxf.state = .hunt ∨ s.rxf.state = .discard) →
      exec (.lineByte data true false err) s = .next
        { s with rxf := { s.rxf with packetsSeen := seen, state := fresh } } ∧
      exec (.lineByte data true true err) s = .next
        { s with rxf := { s.rxf with packetsSeen := seen, headerErrors := satInc s.rxf.headerErrors, state := .hunt }
                 irq := { s.irq with status := s.irq.status ||| 0x080 } }) ∧
    ∀ p, s.rxf.state = .header p →
      exec (.lineByte data true false err) s = .next
        { s with rxf := { s.rxf with packetsSeen := seen, headerErrors := satInc s.rxf.headerErrors, state := fresh }
                 irq := { s.irq with status := s.irq.status ||| 0x080 } } ∧
      exec (.lineByte data true true err) s = .next
        { s with rxf := { s.rxf with packetsSeen := seen, headerErrors := satInc (satInc s.rxf.headerErrors),
                                     state := .hunt }
                 irq := { s.irq with status := s.irq.status ||| 0x080 } }

/-- The second and third header bytes are collected, and with LREOP they are a header error; a fourth byte that the
header check, the kind or a line error condemns is a header error that leaves HUNT with LREOP and DISCARD without
(R39, R40). -/
def Obligations.HeaderBytesAndHeaderErrors : Prop :=
  ∀ s p data err, s.inReset = false → s.rxf.lineRx = true → s.rxf.state = .header p →
    let faulty (after : RxFramerState) : State :=
      { s with rxf := { s.rxf with headerErrors := satInc s.rxf.headerErrors, state := after }
               irq := { s.irq with status := s.irq.status ||| 0x080 } }
    ((p.bytes.length = 1 ∨ p.bytes.length = 2) →
      exec (.lineByte data false false err) s = .next
        { s with rxf := { s.rxf with
            state := .header { p with bytes := p.bytes ++ [data], lineError := p.lineError || err,
                                      crc := crcByte p.crc data } } } ∧
      exec (.lineByte data false true err) s = .next (faulty .hunt)) ∧
    ∀ b0 b1 b2, p.bytes = [b0, b1, b2] →
      (data ≠ ~~~(b0 + b1 + b2) ∨ b0.extractLsb' 6 2 = 3 ∨ (p.lineError || err) = true) →
      exec (.lineByte data false false err) s = .next (faulty .discard) ∧
      exec (.lineByte data false true err) s = .next (faulty .hunt)

/-- The header check is correct exactly when byte 3 is the complement of the sum of bytes 0..2 modulo 256, which is
when the four bytes sum to FFh modulo 256; with bytes 4Ch, 81h, 96h it is 9Ch; and the judgement of a header without a
line error and of a kind that is defined rests on it alone (R34). -/
def Obligations.HeaderCheckIsTheComplementOfTheSum : Prop :=
  (∀ b0 b1 b2 b3 : Byte, b3 = headerCheck b0 b1 b2 ↔
    b3.toNat = 255 - (b0.toNat + b1.toNat + b2.toNat) % 256) ∧
  (∀ b0 b1 b2 b3 : Byte, b3 = headerCheck b0 b1 b2 ↔
    (b0.toNat + b1.toNat + b2.toNat + b3.toNat) % 256 = 0xFF) ∧
  headerCheck 0x4C 0x81 0x96 = 0x9C ∧
  ∀ b0 b1 b2 b3 : Byte, b0.extractLsb' 6 2 ≠ 3 →
    ((judgeHeader b0 b1 b2 b3 false).isSome = true ↔ b3 = headerCheck b0 b1 b2)

/-- What the transmit framer builds the receive framer reads back: the four header bytes are judged good and give every
field of the header they were built from, and the two trailer bytes, high byte first, read as the CRC register. A byte
enters that register most significant bit first: each bit is compared with the top bit, the register shifts left by one
place, and 1021h is exclusive-ORed into it if the two differed. Position
by position the framer presents the header of the link header layout, the payload bytes of the entry, or for an
insert-time entry its start stamp, then the trailer; LTSOP stands at position 1, LTEOP at 6 + L or with a cut, LTKILL with
a cut, and nothing is presented outside SENDING (R33 to R35, R130, R138 to R140, R147). -/
def Obligations.SentPacketIsReadBack : Prop :=
  (∀ h : Header, ∃ b0 b1 b2 b3, headerBytes h = [b0, b1, b2, b3] ∧ judgeHeader b0 b1 b2 b3 false = some h) ∧
  (∀ (crc : Word) (b : Byte), crcByte crc b = [7, 6, 5, 4, 3, 2, 1, 0].foldl
    (fun (c : Word) (i : Nat) => if b.getLsbD i = c.getLsbD 15 then c <<< 1 else (c <<< 1) ^^^ 0x1021) crc) ∧
  (∀ (e : TxEntry) (crc : Word),
    trailerValue [e.byteAt (5 + e.length.toNat) crc, e.byteAt (6 + e.length.toNat) crc] = some crc ∧
    e.byteAt 1 crc = (match e.kind with | .data => 0#2 | .time => 1#2 | .control => 2#2) ++
      BitVec.ofNat 6 e.channel.val ∧
    e.byteAt 2 crc = 0#3 ++ BitVec.ofBool e.marker ++ (match e.sequenceUsed with | some n => n | none => 0) ∧
    e.byteAt 3 crc = e.length ∧
    e.byteAt 4 crc = ~~~(e.byteAt 1 crc + e.byteAt 2 crc + e.byteAt 3 crc) ∧
    (e.insertTime = false → ∀ k b, k < e.length.toNat → e.payload[k]? = some b → e.byteAt (5 + k) crc = b) ∧
    (e.insertTime = true → e.length = 6 → ∀ st, e.startStamp = some st →
      e.byteAt 5 crc ++ e.byteAt 6 crc ++ e.byteAt 7 crc ++ e.byteAt 8 crc = st.time.coarse ∧
      e.byteAt 9 crc ++ e.byteAt 10 crc = st.time.fine.setWidth 16)) ∧
  ∀ s : State, s.inReset = false →
    ((∀ a, s.txf.state ≠ .sending a) → s.transmitPins = { data := 0, sop := false, eop := false, kill := false }) ∧
    ∀ a e rest, s.txf.state = .sending a → (s.txQueue a.queue).entries = e :: rest →
      s.transmitPins =
        { data := e.byteAt a.position a.crc, sop := decide (a.position = 1),
          eop := a.cut || decide (a.position = 6 + e.length.toNat), kill := a.cut }

/-- A byte without LRSOP in BODY advances the byte count and is payload, trailer or excess by its position; if it carries
LREOP, the end of the packet with that byte is settled in the same step and the framer is in HUNT (R42, R43, R45). -/
def Obligations.BodyByteByPosition : Prop :=
  ∀ s p data err, s.inReset = false → s.rxf.lineRx = true → s.rxf.state = .body p →
    let L := p.header.length.toNat
    let noted : BodyPacket := { p with count := p.count + 1, lineError := p.lineError || err }
    ∀ x : BodyPacket,
      (p.count < 4 + L → x =
        { noted with
          crc := crcByte p.crc data
          storage := p.storage.map (· ++ [data])
          kept := if p.snapshot.config.reference = true ∧ p.header.kind = .time ∧ L = 6 then p.kept ++ [data]
                  else p.kept }) →
      (4 + L ≤ p.count → p.count < 6 + L → x = { noted with trailer := p.trailer ++ [data] }) →
      (6 + L ≤ p.count → x = noted) →
      p.takeByte data err = x ∧
      exec (.lineByte data false false err) s = .next { s with rxf := { s.rxf with state := .body x } } ∧
      exec (.lineByte data false true err) s = .next ((s.settleEnd x false).setRxFramer .hunt)

/-- The outcome of a packet follows from its byte count against the expected total, 6 + L: complete, truncated or
overlong at LREOP, and truncated with EARLY_START at an early start; the check fails unless two trailer bytes equal the
CRC register; LINE_ERROR and DUPLICATE are those of the packet. A byte with LRSOP in BODY first settles the packet in
progress as an early start, and is then taken as in HUNT. A good header that its fourth byte completes with LREOP is
classified and its end settled in the same step (R41, R44, R46). That an early start after the whole trailer or after
excess bytes leaves OVERLONG clear is the model's inference (log 12). -/
def Obligations.OutcomeByByteCount : Prop :=
  (∀ s p data eop err, s.inReset = false → s.rxf.lineRx = true → s.rxf.state = .body p →
    exec (.lineByte data true eop err) s =
      exec (.lineByte data true eop err) ((s.settleEnd p true).setRxFramer .hunt)) ∧
  (∀ s p b0 b1 b2 data err h, s.inReset = false → s.rxf.lineRx = true → s.rxf.state = .header p →
    p.bytes = [b0, b1, b2] → judgeHeader b0 b1 b2 data (p.lineError || err) = some h →
    exec (.lineByte data false true err) s = .next
      (((s.classify h).1.settleEnd (p.toBody h (s.channel h.channel) (s.classify h).2 data) false).setRxFramer
        .hunt)) ∧
  ∀ p : BodyPacket,
    let total := 6 + p.header.length.toNat
    let trailerOk : Prop := ∃ hi lo, p.trailer = [hi, lo] ∧ hi ++ lo = p.crc
    (p.count < total →
      p.outcome false = { lineError := p.lineError, checkFail := true, truncated := true, earlyStart := false,
                          overlong := false, duplicate := p.duplicate }) ∧
    (p.count = total → ∃ fails : Bool, (fails = false ↔ trailerOk) ∧
      p.outcome false = { lineError := p.lineError, checkFail := fails, truncated := false, earlyStart := false,
                          overlong := false, duplicate := p.duplicate }) ∧
    (total < p.count → ∃ fails : Bool, (fails = false ↔ trailerOk) ∧
      p.outcome false = { lineError := p.lineError, checkFail := fails, truncated := false, earlyStart := false,
                          overlong := true, duplicate := p.duplicate }) ∧
    p.outcome true = { lineError := p.lineError, checkFail := true, truncated := true, earlyStart := true,
                       overlong := false, duplicate := p.duplicate }

/-- LINE_RX on leaves the framer state alone; LINE_RX off abandons the packet in progress, returns its storage and
leaves HUNT; the counter clear acts in both; any other operand value is BAD_ARG. While LINE_RX is off every line byte
is ignored (R36, R48). -/
def Obligations.LineRxTurnsReceptionOnAndOff : Prop :=
  (∀ s data sop eop err, s.rxf.lineRx = false → exec (.lineByte data sop eop err) s = .next s) ∧
  ∀ s, s.takesCommands →
    ((1 < s.cmd.operands.a.toNat ∨ 1 < s.cmd.operands.b.toNat) →
      exec .lineRx s = .next (s.doneWith 0x20 .badArg)) ∧
    (s.cmd.operands.a = 1 → s.cmd.operands.b = 0 →
      exec .lineRx s = .next (({ s with rxf := { s.rxf with lineRx := true } } : State).doneWith 0x20 .ok)) ∧
    (s.cmd.operands.a = 1 → s.cmd.operands.b = 1 →
      exec .lineRx s = .next
        (({ s with rxf := { s.rxf with lineRx := true, packetsSeen := 0, headerErrors := 0, strayBytes := 0,
                                       unrouted := 0 } } : State).doneWith 0x20 .ok)) ∧
    (s.cmd.operands.a = 0 → s.cmd.operands.b = 0 →
      (s.fillingCells = none →
        exec .lineRx s = .next
          (({ s with rxf := { s.rxf with lineRx := false, state := .hunt } } : State).doneWith 0x20 .ok)) ∧
      ∀ n, s.fillingCells = some n →
        exec .lineRx s = .next
          (({ s with rxf := { s.rxf with lineRx := false, state := .hunt }
                     pool := { s.pool with freeCells := s.pool.freeCells + n
                                           freeDescs := s.pool.freeDescs + 1 } } : State).doneWith 0x20 .ok)) ∧
    (s.cmd.operands.a = 0 → s.cmd.operands.b = 1 →
      exec .lineRx s = .next
        (({ s with rxf := { state := .hunt, lineRx := false, packetsSeen := 0, headerErrors := 0, strayBytes := 0,
                            unrouted := 0 }
                   pool := match s.fillingCells with
                     | none => s.pool
                     | some n => { s.pool with freeCells := s.pool.freeCells + n
                                               freeDescs := s.pool.freeDescs + 1 } } : State).doneWith 0x20 .ok))

/-! ## Classification (04) -/

/-- The sequence check: off or without a last sequence it finds nothing; else the same value is a duplicate, the next
one in sequence, and any other a gap of 1 to 14. A good header on a DROP channel counts as unrouted, and a duplicate
under DISCARD is dropped at the header; both go on to BODY without storage and touch no queue and no pool (R41, R57,
R58, R59). -/
def Obligations.SequenceCheckAndHeadersWithoutAQueue : Prop :=
  (∀ (e : ChannelEntry) (p : BitVec 4),
    ((e.config.sequenceCheck = false ∨ e.lastSequence = none) → checkSequence e p = .unchecked) ∧
    ∀ last, e.config.sequenceCheck = true → e.lastSequence = some last →
      (p = last → checkSequence e p = .duplicate) ∧
      (p.toNat = (last.toNat + 1) % 16 → checkSequence e p = .inSequence) ∧
      (p ≠ last → p.toNat ≠ (last.toNat + 1) % 16 →
        ∃ g : BitVec 4, checkSequence e p = .gap g ∧ 1 ≤ g.toNat ∧ g.toNat ≤ 14 ∧
          (last.toNat + 1 + g.toNat) % 16 = p.toNat)) ∧
  ∀ s p b0 b1 b2 data err h, s.inReset = false → s.rxf.lineRx = true → s.rxf.state = .header p →
    p.bytes = [b0, b1, b2] → judgeHeader b0 b1 b2 data (p.lineError || err) = some h →
    let e := s.channel h.channel
    let followed (v : Verdict) : BodyPacket :=
      { stamp := p.stamp, arrival := p.arrival, bytes := [b0, b1, b2, data], header := h, snapshot := e, verdict := v,
        duplicate := false, gap := none, count := 4, crc := crcByte p.crc data, trailer := [], lineError := false,
        storage := none, kept := [] }
    (e.config.action = .drop → exec (.lineByte data false false err) s = .next
      { s with rxf := { s.rxf with unrouted := satInc s.rxf.unrouted, state := .body (followed .unrouted) } }) ∧
    (e.config.action = .queue → e.config.sequenceCheck = true → e.lastSequence = some h.sequence →
      e.config.duplicate = .discard → exec (.lineByte data false false err) s = .next
        ((s.setChannel h.channel { e with duplicatesDropped := satInc e.duplicatesDropped }).setRxFramer
          (.body (followed .duplicateDropped))))

/-- A good header on a QUEUE channel meets its queue: under flush, OFF, STOPPED or PENDING without the start it waits
for, it is refused; HELD, it is a loss; RUN or GRACE, it asks the pool, and so does the marked packet that starts an
AT_MARKER queue. A granted packet holds storage. A loss advances pending loss and the lost counter and raises LOSS, and
under HOLD it sends a queue that is RUN or GRACE to HELD and raises HOLD. The packet goes on with its header, the channel
snapshot, DUPLICATE for a kept duplicate and the gap size for a gap (R20, R21, R28, R41, R56, R58, R60, R61, R85). -/
def Obligations.GoodHeaderMeetsItsQueue : Prop :=
  (∀ r : RxQueue,
    let counted : RxQueue :=
      { r with pendingLoss := if r.pendingLoss = 0xFFFF then 0xFFFF else r.pendingLoss + 1, lost := r.lost + 1
               events := r.events ||| 0x08 }
    (r.config.overrun = .hold → r.state = .run →
      r.lose = { counted with state := .held .run, events := r.events ||| 0x18 }) ∧
    (r.config.overrun = .hold → r.state = .grace →
      r.lose = { counted with state := .held .grace, events := r.events ||| 0x18 }) ∧
    ((r.config.overrun = .drop ∨ (r.state ≠ .run ∧ r.state ≠ .grace)) → r.lose = counted)) ∧
  ∀ s p b0 b1 b2 data err h q, s.inReset = false → s.rxf.lineRx = true → s.rxf.state = .header p →
    p.bytes = [b0, b1, b2] → judgeHeader b0 b1 b2 data (p.lineError || err) = some h →
    let e := s.channel h.channel
    e.config.action = .queue →
    ¬(e.config.sequenceCheck = true ∧ e.lastSequence = some h.sequence ∧ e.config.duplicate = .discard) →
    e.config.queue = q →
    let r := s.rxQueue q
    let body (v : Verdict) : RxFramerState := .body
      { stamp := p.stamp, arrival := p.arrival, bytes := [b0, b1, b2, data], header := h, snapshot := e, verdict := v,
        duplicate := e.config.sequenceCheck && decide (e.lastSequence = some h.sequence),
        gap := (match checkSequence e h.sequence with | .gap g => some g | _ => none),
        count := 4, crc := crcByte p.crc data, trailer := [], lineError := false,
        storage := if v = .admitted then some [] else none, kept := [] }
    let cells := cellsFor h.length.toNat
    let granted (x : RxQueue) : Prop := rxReservationRefusal s.pool x.cellCount x.config.quota cells = none
    let reserve (x : State) : State :=
      { x with pool := { s.pool with freeCells := s.pool.freeCells - cells, freeDescs := s.pool.freeDescs - 1 }
               irq := { s.irq with
                 status := if s.pool.lowThreshold ≤ s.pool.freeCells ∧
                     s.pool.freeCells - cells < s.pool.lowThreshold
                   then s.irq.status ||| 0x100 else s.irq.status } }
    let started : RxQueue := { r with state := .run, events := r.events ||| 0x01 }
    ((r.flush = true ∨ r.state = .off ∨ (∃ c, r.state = .stopped c) ∨
        (r.state = .pending ∧ ¬(r.window.start = .atMarker ∧ h.marker = true))) →
      exec (.lineByte data false false err) s = .next
        ((s.setRxQueue q { r with refused := r.refused + 1 }).setRxFramer (body .refused))) ∧
    (r.flush = false → (∃ b, r.state = .held b) →
      exec (.lineByte data false false err) s = .next ((s.setRxQueue q r.lose).setRxFramer (body .loss))) ∧
    (r.flush = false → (r.state = .run ∨ r.state = .grace) →
      (granted r → exec (.lineByte data false false err) s = .next ((reserve s).setRxFramer (body .admitted))) ∧
      (¬granted r → exec (.lineByte data false false err) s = .next
        ((s.setRxQueue q r.lose).setRxFramer (body .loss)))) ∧
    (r.flush = false → r.state = .pending → r.window.start = .atMarker → h.marker = true →
      (granted r → exec (.lineByte data false false err) s = .next
        ((reserve (s.setRxQueue q started)).setRxFramer (body .admitted))) ∧
      (¬granted r → exec (.lineByte data false false err) s = .next
        ((s.setRxQueue q started.lose).setRxFramer (body .loss))))

/-- The end of a stored packet, by LREOP or by an early start. A policy discards it as rejected, and a queue that is OFF
or under flush as refused, and both return its descriptor and all its reserved cells. Otherwise surplus cells return, and
if the kept cells still fit the quota the record joins the tail with the pending loss as its loss-before and with the
packet's DUPLICATE and gap size; if not, it is refused and everything returns. What the last sequence and the reference
list then do is said by EndOfAPacketWithoutStorage (R23, R26, R44, R46, R62, R63). -/
def Obligations.EndOfAStoredPacket : Prop :=
  (∀ s p data err, s.inReset = false → s.rxf.lineRx = true → s.rxf.state = .body p →
    exec (.lineByte data false true err) s =
      .next ((s.settleEnd (p.takeByte data err) false).setRxFramer .hunt)) ∧
  ∀ (s : State) (p : BodyPacket) early stored, p.storage = some stored →
    let q := p.snapshot.config.queue
    let r := s.rxQueue q
    let f := p.outcome early
    let reserved := cellsFor p.header.length.toNat
    let kept := cellsFor stored.length
    let settled (x : State) : State := (x.settleSequence p f).settleReference p f
    let rejects : Prop :=
      (f.checkFail = true ∧ p.snapshot.config.check = .discard) ∨
        ((f.lineError = true ∨ f.truncated = true ∨ f.overlong = true) ∧ p.snapshot.config.errored = .discard)
    (rejects → s.settleEnd p early =
      settled ((s.setRxQueue q { r with rejected := r.rejected + 1 }).returnHolder reserved)) ∧
    (¬rejects → (r.state = .off ∨ r.flush = true) → s.settleEnd p early =
      settled ((s.setRxQueue q { r with refused := r.refused + 1 }).returnHolder reserved)) ∧
    (¬rejects → r.state ≠ .off → r.flush = false → r.cellCount + kept ≤ r.config.quota →
      let rec' : RxRecord :=
        { queue := q, header := p.header, stamp := p.stamp, flags := f, gap := p.gap, lossBefore := r.pendingLoss,
          arrival := p.arrival, payload := stored }
      let x := r.commit rec'
      s.settleEnd p early = settled ((s.returnCells (reserved - kept)).setRxQueue q x) ∧
        f.duplicate = p.duplicate ∧ x.records = r.records ++ [rec'] ∧
        x.pendingLoss = 0 ∧ x.admitted = r.admitted + 1 ∧ x.lost = r.lost ∧ x.refused = r.refused ∧
        x.rejected = r.rejected ∧ x.config = r.config ∧ x.window = r.window ∧ x.flush = r.flush) ∧
    (¬rejects → r.state ≠ .off → r.flush = false → r.config.quota < r.cellCount + kept → s.settleEnd p early =
      settled (((s.returnCells (reserved - kept)).setRxQueue q { r with refused := r.refused + 1 }).returnHolder kept))

/-- Batch accounting of a commit, by mode, to a queue that is RUN or GRACE: CONTINUOUS counts; SINGLE_BATCH stops at the
batch size with BATCH_DONE; RELAY_BATCH goes to GRACE with BC clear, and stops as RELAY_MISSED with BC set. A commit in
another state keeps the state, the batch count and BC. In every state WATERMARK is raised exactly when the commit brings
the record count to the watermark (R79, R80, R81, R88). -/
def Obligations.BatchAccountingOfACommit : Prop :=
  ∀ (r : RxQueue) (rec : RxRecord),
    let x := r.commit rec
    let mark : BitVec 6 := if r.records.length + 1 = r.config.watermark then 0x02 else 0
    let counts : Prop := r.state = .run ∨ r.state = .grace
    (¬counts →
      x.state = r.state ∧ x.batchCount = r.batchCount ∧ x.batchComplete = r.batchComplete ∧
      x.events = r.events ||| mark) ∧
    (counts → (r.config.mode = .continuous ∨ r.batchCount + 1 ≠ r.config.batchSize) →
      x.state = r.state ∧ x.batchCount = r.batchCount + 1 ∧ x.batchComplete = r.batchComplete ∧
      x.events = r.events ||| mark) ∧
    (counts → r.config.mode = .singleBatch → r.batchCount + 1 = r.config.batchSize →
      x.state = .stopped .batchDone ∧ x.batchCount = r.config.batchSize ∧ x.batchComplete = true ∧
      x.events = r.events ||| mark ||| 0x24) ∧
    (counts → r.config.mode = .relayBatch → r.batchCount + 1 = r.config.batchSize → r.batchComplete = false →
      x.state = .grace ∧ x.batchCount = 0 ∧ x.batchComplete = true ∧ x.events = r.events ||| mark ||| 0x04) ∧
    (counts → r.config.mode = .relayBatch → r.batchCount + 1 = r.config.batchSize → r.batchComplete = true →
      x.state = .stopped .relayMissed ∧ x.batchCount = r.config.batchSize ∧ x.batchComplete = true ∧
      x.events = r.events ||| mark ||| 0x20)

/-- The end of a packet without storage changes no queue and no pool. At every end, with storage or without: with the
snapshot's sequence check on and the check passed it sets the live last sequence, but not for a duplicate dropped at the
header; then a TIME packet of L = 6 on a channel with the Reference option, with its six bytes kept and no fault in its
outcome, becomes an entry of the reference list with REF_NEW, where a full list first loses its oldest entry, with
REF_OVERWRITE and the saturating overwrite counter; any other packet leaves the list alone (R13, R14, R59, R65, R66). -/
def Obligations.EndOfAPacketWithoutStorage : Prop :=
  (∀ s p data err, s.inReset = false → s.rxf.lineRx = true → s.rxf.state = .body p → p.storage = none →
    let x := p.takeByte data err
    exec (.lineByte data false true err) s = .next
      (((s.settleSequence x (x.outcome false)).settleReference x (x.outcome false)).setRxFramer .hunt)) ∧
  (∀ (s : State) (p : BodyPacket) early, p.storage = none →
    s.settleEnd p early = (s.settleSequence p (p.outcome early)).settleReference p (p.outcome early)) ∧
  ∀ (s : State) (p : BodyPacket) (f : RecordFlags),
    let c := p.header.channel
    let updates : Prop := p.snapshot.config.sequenceCheck = true ∧ f.checkFail = false ∧ p.verdict ≠ .duplicateDropped
    let qualifies : Prop := p.snapshot.config.reference = true ∧ p.header.kind = .time ∧ p.header.length.toNat = 6 ∧
      f.checkFail = false ∧ f.lineError = false ∧ f.truncated = false ∧ f.overlong = false
    (updates → s.settleSequence p f = s.setChannel c { s.channel c with lastSequence := some p.header.sequence }) ∧
    (¬updates → s.settleSequence p f = s) ∧ (¬qualifies → s.settleReference p f = s) ∧
    (qualifies → ∀ c3 c2 c1 c0 f1 f0, p.kept = [c3, c2, c1, c0, f1, f0] →
      let entry : RefEntry :=
        { channel := c, stamp := p.stamp, remoteCoarse := c3 ++ c2 ++ c1 ++ c0, remoteFine := f1 ++ f0 }
      (s.time.refs.length < 8 → s.settleReference p f =
        { s with time := { s.time with refs := s.time.refs ++ [entry] }
                 irq := { s.irq with status := s.irq.status ||| 0x008 } }) ∧
      (8 ≤ s.time.refs.length → s.settleReference p f =
        { s with time := { s.time with
                   refs := s.time.refs.tail ++ [entry]
                   refOverwrites := if s.time.refOverwrites = 255 then 255 else s.time.refOverwrites + 1 }
                 irq := { s.irq with status := s.irq.status ||| 0x018 } }))

/-- CH_WRITE changes the seven configuration fields of one channel together and keeps its last sequence and its
duplicates-dropped counter, or changes none when one is out of range; CH_SEQ_RESET makes the last sequence absent and
with OPB = 1 clears that counter; TX_SEQ_SET writes one value of the transmit sequence table, which no word of the
register window shows (R53, R55, R67). -/
def Obligations.ChannelTableCommands : Prop :=
  ∀ s (c : ChannelId), s.takesCommands → s.cmd.operands.a.toNat = c.val →
    (∀ g : ChannelConfig,
      s.cmd.operands.b = (match g.action with | .drop => 0 | .queue => 1) →
      s.cmd.operands.c.toNat = g.queue.val →
      s.cmd.operands.d = (match g.errored with | .keep => 0 | .discard => 1) →
      s.cmd.operands.e = (match g.check with | .keep => 0 | .discard => 1) →
      s.cmd.operands.f = (match g.duplicate with | .keep => 0 | .discard => 1) →
      s.cmd.operands.g = (if g.sequenceCheck then 1 else 0) → s.cmd.operands.h = (if g.reference then 1 else 0) →
      exec .chWrite s = .next ((s.setChannel c { s.channel c with config := g }).doneWith 0x28 .ok)) ∧
    ((1 < s.cmd.operands.b.toNat ∨ 15 < s.cmd.operands.c.toNat ∨ 1 < s.cmd.operands.d.toNat ∨
        1 < s.cmd.operands.e.toNat ∨ 1 < s.cmd.operands.f.toNat ∨ 1 < s.cmd.operands.g.toNat ∨
        1 < s.cmd.operands.h.toNat) →
      exec .chWrite s = .next (s.doneWith 0x28 .badArg)) ∧
    (s.cmd.operands.b = 0 → exec .chSeqReset s = .next
      ((s.setChannel c { s.channel c with lastSequence := none }).doneWith 0x2A .ok)) ∧
    (s.cmd.operands.b = 1 → exec .chSeqReset s = .next
      ((s.setChannel c { s.channel c with lastSequence := none, duplicatesDropped := 0 }).doneWith 0x2A .ok)) ∧
    (1 < s.cmd.operands.b.toNat → exec .chSeqReset s = .next (s.doneWith 0x2A .badArg)) ∧
    (∀ v : BitVec 4, s.cmd.operands.b.toNat = v.toNat →
      exec .txSeqSet s = .next ((s.setTxSequence c v).doneWith 0x2B .ok) ∧
      ∀ addr, (s.setTxSequence c v).readWord addr = s.readWord addr) ∧
    (15 < s.cmd.operands.b.toNat → exec .txSeqSet s = .next (s.doneWith 0x2B .badArg))

/-- CH_READ leaves the whole entry in the operand words and keeps the latch it ran with, and a CH_WRITE of those
words, with the channel written back into OPA, writes the same configuration (R54, R53). -/
def Obligations.ChReadGivesBackWhatChWriteTakes : Prop :=
  ∀ s (c : ChannelId), s.takesCommands → s.cmd.operands.a.toNat = c.val →
    ∃ t, exec .chRead s = .next t ∧
      t = { s with cmd := { s.cmd with operands := t.cmd.operands, latch := s.cmd.operands, last := some 0x29,
                                       result := .ok }
                   irq := { s.irq with status := s.irq.status ||| 0x001 } } ∧
      t.cmd.operands.a =
        BitVec.ofNat 16 ((s.channel c).duplicatesDropped.toNat * 256 +
          (match (s.channel c).lastSequence with | some n => 16 + n.toNat | none => 0)) ∧
      ∀ w, t.cmd.operands.put 0 (BitVec.ofNat 16 c.val) = w →
        channelWriteArgs w = some (c, (s.channel c).config)

/-! ## Receive queues (05) -/

/-- RX_CONFIG writes its five values together and RX_WINDOW the start condition and the stop time, each in an OFF
queue; RX_CONFIG also asks for an empty one. Operands come first in RX_CONFIG; in RX_WINDOW a stop time at or below an
AT_TIME start is BAD_ARG last (R72, R73). -/
def Obligations.RxConfigAndRxWindow : Prop :=
  ∀ s (q : RxQueueId), s.takesCommands → s.cmd.operands.a.toNat = q.val →
    let r := s.rxQueue q
    let o := s.cmd.operands
    (∀ g : RxConfig, o.b = (match g.mode with | .continuous => 0 | .singleBatch => 1 | .relayBatch => 2) →
      o.c = g.batchSize → o.d = (match g.overrun with | .drop => 0 | .hold => 1) → o.e.toNat = g.quota →
      o.f.toNat = g.watermark → g.batchSize ≠ 0 → g.quota ≤ 1024 → 1 ≤ g.watermark → g.watermark ≤ 512 →
      (r.state = .off → r.records = [] →
        exec .rxConfig s = .next ((s.setRxQueue q { r with config := g }).doneWith 0x30 .ok)) ∧
      ((r.state ≠ .off ∨ r.records ≠ []) → exec .rxConfig s = .next (s.doneWith 0x30 .wrongState))) ∧
    ((2 < o.b.toNat ∨ o.c = 0 ∨ 1 < o.d.toNat ∨ 1024 < o.e.toNat ∨ o.f = 0 ∨ 512 < o.f.toNat) →
      exec .rxConfig s = .next (s.doneWith 0x30 .badArg)) ∧
    (∀ w : RxWindow,
      ((o.b.extractLsb' 0 2 = 0 ∧ w.start = .now) ∨ (o.b.extractLsb' 0 2 = 2 ∧ w.start = .atMarker) ∨
        (o.b.extractLsb' 0 2 = 1 ∧ o.e.toNat ≤ 4095 ∧ w.start = .atTime ⟨o.c ++ o.d, o.e.setWidth 12⟩)) →
      ((o.b.getLsbD 4 = false ∧ w.stop = none) ∨
        (o.b.getLsbD 4 = true ∧ o.h.toNat ≤ 4095 ∧ w.stop = some ⟨o.f ++ o.g, o.h.setWidth 12⟩)) →
      let stopsEarly : Prop := ∃ T S, w.start = .atTime T ∧ w.stop = some S ∧ T.before S = false
      (r.state ≠ .off → exec .rxWindow s = .next (s.doneWith 0x31 .wrongState)) ∧
      (r.state = .off → stopsEarly → exec .rxWindow s = .next (s.doneWith 0x31 .badArg)) ∧
      (r.state = .off → ¬stopsEarly →
        exec .rxWindow s = .next ((s.setRxQueue q { r with window := w }).doneWith 0x31 .ok))) ∧
    ((o.b.extractLsb' 0 2 = 3 ∨ (o.b.extractLsb' 0 2 = 1 ∧ 4095 < o.e.toNat) ∨
        (o.b.getLsbD 4 = true ∧ 4095 < o.h.toNat)) →
      exec .rxWindow s = .next (s.doneWith 0x31 .badArg))

/-- RX_ENABLE of an OFF queue clears the batch state and the pending loss and takes the state of its start condition,
going on to STOPPED when the stop time is already reached; a queue that is not OFF refuses it (R74). -/
def Obligations.RxEnableTakesTheStartCondition : Prop :=
  ∀ s (q : RxQueueId), s.takesCommands → s.cmd.operands.a.toNat = q.val →
    let r := s.rxQueue q
    let fresh : RxQueue := { r with batchCount := 0, batchComplete := false, pendingLoss := 0 }
    let runs : Prop := r.window.start = .now ∨ ∃ T, r.window.start = .atTime T ∧ s.time.now.before T = false
    let stops : Prop := ∃ S, r.window.stop = some S ∧ s.time.now.before S = false
    (r.state ≠ .off → exec .rxEnable s = .next (s.doneWith 0x32 .wrongState)) ∧
    (r.state = .off → runs → ¬stops → exec .rxEnable s = .next
      ((s.setRxQueue q { fresh with state := .run, events := r.events ||| 0x01 }).doneWith 0x32 .ok)) ∧
    (r.state = .off → runs → stops → exec .rxEnable s = .next
      ((s.setRxQueue q { fresh with state := .stopped .windowEnd, events := r.events ||| 0x21 }).doneWith 0x32 .ok)) ∧
    (r.state = .off → ¬runs → ¬stops → exec .rxEnable s = .next
      ((s.setRxQueue q { fresh with state := .pending }).doneWith 0x32 .ok)) ∧
    (r.state = .off → ¬runs → stops → exec .rxEnable s = .next
      ((s.setRxQueue q { fresh with state := .stopped .windowEnd, events := r.events ||| 0x20 }).doneWith 0x32 .ok))

/-- RX_DISABLE turns a queue OFF in every state; RX_REARM restarts a queue that a batch stopped, and RX_RESUME a HELD
queue in the state it remembers; elsewhere each of these two is WRONG_STATE. Nothing else of the queue changes but
what RX_REARM clears (R75, R84, R86). -/
def Obligations.RxDisableRearmAndResume : Prop :=
  ∀ s (q : RxQueueId), s.takesCommands → s.cmd.operands.a.toNat = q.val →
    let r := s.rxQueue q
    exec .rxDisable s = .next ((s.setRxQueue q { r with state := .off }).doneWith 0x33 .ok) ∧
    ((r.state = .stopped .batchDone ∨ r.state = .stopped .relayMissed) → exec .rxRearm s = .next
      ((s.setRxQueue q { r with state := .run, batchCount := 0, batchComplete := false }).doneWith 0x34 .ok)) ∧
    (r.state ≠ .stopped .batchDone → r.state ≠ .stopped .relayMissed →
      exec .rxRearm s = .next (s.doneWith 0x34 .wrongState)) ∧
    (r.state = .held .run → exec .rxResume s = .next ((s.setRxQueue q { r with state := .run }).doneWith 0x36 .ok)) ∧
    (r.state = .held .grace →
      exec .rxResume s = .next ((s.setRxQueue q { r with state := .grace }).doneWith 0x36 .ok)) ∧
    ((∀ b, r.state ≠ .held b) → exec .rxResume s = .next (s.doneWith 0x36 .wrongState))

/-- RX_ACK_BATCH clears BC in every state and does no more, but that GRACE becomes RUN, and RUN becomes the state
remembered by a queue HELD from GRACE, so that a later RX_RESUME returns it to RUN; a queue above 15 is BAD_ARG (R82). -/
def Obligations.RxAckBatchClearsBatchComplete : Prop :=
  ∀ s, s.takesCommands →
    (15 < s.cmd.operands.a.toNat → exec .rxAckBatch s = .next (s.doneWith 0x35 .badArg)) ∧
    ∀ q : RxQueueId, s.cmd.operands.a.toNat = q.val →
      let r := s.rxQueue q
      (r.state = .grace → exec .rxAckBatch s = .next
        ((s.setRxQueue q { r with batchComplete := false, state := .run }).doneWith 0x35 .ok)) ∧
      (r.state = .held .grace → ∃ t, exec .rxAckBatch s = .next t ∧
        t = (s.setRxQueue q { r with batchComplete := false, state := .held .run }).doneWith 0x35 .ok ∧
        ((t.rxQueue q).resume.map fun x => x.state) = some .run) ∧
      (r.state ≠ .grace → r.state ≠ .held .grace → exec .rxAckBatch s = .next
        ((s.setRxQueue q { r with batchComplete := false }).doneWith 0x35 .ok)) ∧
      (r.state ≠ .grace → r.state ≠ .held .grace → r.batchComplete = false →
        exec .rxAckBatch s = .next (s.doneWith 0x35 .ok))

/-- RX_FLUSH makes the unit BUSY with the queue's flag set and its pending loss cleared, closing the window with
WINDOW_LOST if it is open on the queue, and completes at once on an empty queue. Each removal takes the head record
and returns its resources, and the last one completes the flush (R26, R91, R92, R105). -/
def Obligations.RxFlushRemovesHeadFirst : Prop :=
  (∀ s (q : RxQueueId), s.takesCommands → s.cmd.operands.a.toNat = q.val →
    let r := s.rxQueue q
    let busy : State :=
      { s.setRxQueue q { r with flush := true, pendingLoss := 0 } with
        cmd := { s.cmd with latch := s.cmd.operands, last := some 0x37, running := some (.rxFlush q) } }
    (r.records ≠ [] → (∀ w, s.window.record = some w → w.queue ≠ q) → exec .rxFlush s = .next busy) ∧
    (r.records ≠ [] → ∀ w, s.window.record = some w → w.queue = q → exec .rxFlush s = .next
      { busy with window := { s.window with record := none }, irq := { s.irq with status := s.irq.status ||| 0x800 } }) ∧
    (r.records = [] → (∀ w, s.window.record = some w → w.queue ≠ q) → exec .rxFlush s = .next
      ((s.setRxQueue q { r with flush := false, pendingLoss := 0 }).doneWith 0x37 .ok))) ∧
  ∀ s (q : RxQueueId) rec rest, s.inReset = false → (s.rxQueue q).flush = true →
    (s.rxQueue q).records = rec :: rest →
    (rest ≠ [] → exec (.rxFlushRemoval q) s = .next
      ((s.setRxQueue q { s.rxQueue q with records := rest }).returnHolder rec.cells)) ∧
    (rest = [] → exec (.rxFlushRemoval q) s = .next
      { (s.setRxQueue q { s.rxQueue q with records := [], flush := false }).returnHolder rec.cells with
        cmd := { s.cmd with running := none, result := .ok }
        irq := { s.irq with status := s.irq.status ||| 0x001 } })

/-! ## The read window and the data port (06, 07) -/

/-- RX_OPEN makes its checks in order and opens the head of a queue at offset 0; RX_RELEASE removes the open record and
returns its resources; RX_CLOSE leaves it where it is; both close the window and are NO_WINDOW while it is CLOSED. RD0 to
RD8 read the descriptor of the open record, and 0 while CLOSED; WIN_STATUS reads the state of the window (R98 to R101,
R109). -/
def Obligations.OpenReleaseAndClose : Prop :=
  (∀ s, s.takesCommands →
    (∀ q : RxQueueId, s.cmd.operands.a.toNat = q.val →
      (s.window.record ≠ none → exec .rxOpen s = .next (s.doneWith 0x38 .windowBusy)) ∧
      (s.window.record = none → (s.rxQueue q).records = [] → exec .rxOpen s = .next (s.doneWith 0x38 .noRecord)) ∧
      (s.window.record = none → (s.rxQueue q).records ≠ [] → exec .rxOpen s = .next
        (({ s with window := { s.window with record := some ⟨q, 0⟩, readPastEnd := false } } : State).doneWith
          0x38 .ok))) ∧
    (s.window.record = none →
      exec .rxRelease s = .next (s.doneWith 0x39 .noWindow) ∧ exec .rxClose s = .next (s.doneWith 0x3A .noWindow)) ∧
    ∀ w, s.window.record = some w →
      (∀ rec rest, (s.rxQueue w.queue).records = rec :: rest → exec .rxRelease s = .next
        (({ (s.setRxQueue w.queue { s.rxQueue w.queue with records := rest }).returnHolder rec.cells with
            window := { s.window with record := none } } : State).doneWith 0x39 .ok)) ∧
      exec .rxClose s = .next
        (({ s with window := { s.window with record := none } } : State).doneWith 0x3A .ok)) ∧
  ∀ s : State,
    (s.window.record = none → ∀ a : BitVec 6, 0x1C ≤ a.toNat → a.toNat ≤ 0x24 → s.readWord a = 0) ∧
    (∀ w rec rest, s.window.record = some w → (s.rxQueue w.queue).records = rec :: rest →
      (s.readWord 0x1C).toNat = rec.queue.val + 16 * rec.header.channel.val +
        1024 * (match rec.header.kind with | .data => 0 | .time => 1 | .control => 2) ∧
      (s.readWord 0x1D).toNat = rec.header.length.toNat + 256 * (rec.payload.length % 256) ∧
      (s.readWord 0x1E).toNat = flagAt rec.flags.lineError 0 + flagAt rec.flags.checkFail 1 +
        flagAt rec.flags.truncated 2 + flagAt rec.flags.earlyStart 3 + flagAt rec.flags.overlong 4 +
        flagAt rec.flags.duplicate 5 + flagAt rec.header.marker 7 +
        (match rec.gap with | some g => 64 + 256 * g.toNat | none => 0) + 4096 * rec.header.sequence.toNat ∧
      s.readWord 0x1F = rec.stamp.epoch.setWidth 16 ∧ s.readWord 0x20 ++ s.readWord 0x21 = rec.stamp.time.coarse ∧
      s.readWord 0x22 = rec.stamp.time.fine.setWidth 16 ∧ s.readWord 0x23 = rec.lossBefore ∧
      s.readWord 0x24 = rec.arrival) ∧
    (s.readWord 0x25).toNat = flagAt s.window.readPastEnd 1 + flagAt s.window.noWindowRead 2 +
      (match s.window.direction with | .rx => 0 | .tx => 8) +
      (match s.window.record with | some w => 1 + 16 * w.queue.val + 256 * (w.offset % 256) | none => 0)

/-- A data port access, by bus cycle or by DMA. A read returns the next two payload bytes of the open record, or the last
one with 0 above it, and moves the offset; at the end it returns 0 and sets READ_PAST_END, and while the window is CLOSED
NO_WINDOW_READ. A write puts one or two bytes into the staging record; past L it sets WRITE_PAST_END, and while staging
is CLOSED NO_WINDOW_WRITE. HDREQ follows the rule of the selected direction, and STG_STATUS and STG_LEN read the state of
staging (R102, R103, R108, R114, R115, R127, R170). The word a read returns is stated as `lastRead`, the model's own field
(log 3). -/
def Obligations.DataPortReadsAndWrites : Prop :=
  (∀ (s : State) (via : PortAccess), s.inReset = false →
    (s.window.record = none → exec (.dataPortRead via) s = .next
      { s with window := { s.window with noWindowRead := true }, host := { s.host with lastRead := some 0 } }) ∧
    (∀ w rec rest, s.window.record = some w → (s.rxQueue w.queue).records = rec :: rest →
      (∀ b0 b1 tail, rec.payload.drop w.offset = b0 :: b1 :: tail → exec (.dataPortRead via) s = .next
        { s with window := { s.window with record := some ⟨w.queue, w.offset + 2⟩ }
                 host := { s.host with lastRead := some (b1 ++ b0) } }) ∧
      (∀ b0, rec.payload.drop w.offset = [b0] → exec (.dataPortRead via) s = .next
        { s with window := { s.window with record := some ⟨w.queue, w.offset + 1⟩ }
                 host := { s.host with lastRead := some ((0 : Byte) ++ b0) } }) ∧
      (rec.payload.length ≤ w.offset → exec (.dataPortRead via) s = .next
        { s with window := { s.window with readPastEnd := true }, host := { s.host with lastRead := some 0 } })) ∧
    (s.staging.record = none → ∀ v, exec (.dataPortWrite via v) s = .next
      { s with staging := { s.staging with noWindowWrite := true } }) ∧
    (∀ r v, s.staging.record = some r →
      (r.payload.length + 2 ≤ r.length.toNat → exec (.dataPortWrite via v) s = .next
        { s with staging := { s.staging with
            record := some { r with payload := r.payload ++ [v.extractLsb' 0 8, v.extractLsb' 8 8] } } }) ∧
      (r.payload.length + 1 = r.length.toNat → exec (.dataPortWrite via v) s = .next
        { s with staging := { s.staging with
            record := some { r with payload := r.payload ++ [v.extractLsb' 0 8] } } }) ∧
      (r.length.toNat ≤ r.payload.length → exec (.dataPortWrite via v) s = .next
        { s with staging := { s.staging with writePastEnd := true } })) ∧
    (s.hdreqAsserted = true ↔
      (s.window.direction = .rx ∧ ∃ w rec, s.window.record = some w ∧
        (s.rxQueue w.queue).records.head? = some rec ∧ w.offset < rec.payload.length) ∨
      (s.window.direction = .tx ∧ ∃ r, s.staging.record = some r ∧ r.payload.length < r.length.toNat))) ∧
  ∀ s : State,
    (s.readWord 0x28).toNat = flagAt s.staging.writePastEnd 1 + flagAt s.staging.noWindowWrite 2 +
      (match s.staging.record with | some r => 1 + 16 * r.queue.val | none => 0) ∧
    (s.readWord 0x29).toNat =
      match s.staging.record with
      | some r => r.length.toNat + 256 * (r.payload.length % 256)
      | none => 0

/-! ## The host port and the interrupts (11, 12) -/

/-- The writes that clear flags clear those written with a one and keep the others; EVT_ENABLE and WIN_CTRL take the value
written; operand words and selectors keep it and read it back; a read-only word ignores a write. HINT_N is asserted
exactly while an enabled indication stands and RESET_N is released. A read drives the value of its word, and the words of
the command unit, the interrupt unit, the time base, the pool, the selected queues and the two lines, and the AUX items,
read the state of their blocks (R16, R30, R50, R89, R94, R103, R107, R109, R115, R127, R146, R160, R166 to R168, R173,
R176, R177). -/
def Obligations.HostPortWrites : Prop :=
  (∀ (s : State) (v : Word), s.inReset = false →
    (∃ x : BitVec 12, exec (.evtStatusWrite v) s = .next { s with irq := { s.irq with status := x } } ∧
      ∀ i, i < 12 → x.getLsbD i = (s.irq.status.getLsbD i && !v.getLsbD i)) ∧
    exec (.evtEnableWrite v) s = .next { s with irq := { s.irq with enable := v.setWidth 12 } } ∧
    (∃ x : BitVec 6, exec (.qEventsWrite v) s = .next
        (s.setRxQueue s.host.qsel { s.rxQueue s.host.qsel with events := x }) ∧
      ∀ i, i < 6 → x.getLsbD i = ((s.rxQueue s.host.qsel).events.getLsbD i && !v.getLsbD i)) ∧
    exec (.winStatusWrite v) s = .next
      { s with window := { s.window with readPastEnd := s.window.readPastEnd && !v.getLsbD 1
                                         noWindowRead := s.window.noWindowRead && !v.getLsbD 2 } } ∧
    exec (.stgStatusWrite v) s = .next
      { s with staging := { s.staging with writePastEnd := s.staging.writePastEnd && !v.getLsbD 1
                                           noWindowWrite := s.staging.noWindowWrite && !v.getLsbD 2 } } ∧
    exec (.cmdStatusWrite v) s = .next { s with cmd := { s.cmd with refused := s.cmd.refused && !v.getLsbD 1 } } ∧
    exec (.winCtrlWrite v) s = .next
      { s with window := { s.window with direction := if v.getLsbD 0 then .tx else .rx } } ∧
    (∀ addr : BitVec 6, 1 ≤ addr.toNat → addr.toNat ≤ 8 → ∃ t, exec (.registerWrite addr v) s = .next t ∧
      t = { s with cmd := { s.cmd with operands := s.cmd.operands.put (addr.toNat - 1) v } } ∧ t.readWord addr = v) ∧
    (∃ t, exec (.registerWrite 0x34 v) s = .next t ∧ t.host.qsel.val = v.toNat % 16 ∧
      t = { s with host := { s.host with qsel := t.host.qsel } } ∧ t.readWord 0x34 = v &&& 0x000F) ∧
    (∃ t, exec (.registerWrite 0x3A v) s = .next t ∧ t.host.tsel.val = v.toNat % 4 ∧
      t = { s with host := { s.host with tsel := t.host.tsel } } ∧ t.readWord 0x3A = v &&& 0x0003) ∧
    (∃ t, exec (.registerWrite 0x3E v) s = .next t ∧
      t = { s with host := { s.host with auxSel := v.setWidth 6 } } ∧ t.readWord 0x3E = v &&& 0x003F) ∧
    (∀ addr : BitVec 6, hasOwnRow addr = false → 8 < addr.toNat → addr ≠ 0x34 → addr ≠ 0x3A → addr ≠ 0x3E →
      exec (.registerWrite addr v) s = .next s) ∧
    ∀ addr, s.hostRead addr = some (s.readWord addr)) ∧
  (∀ s : State, s.hintAsserted = true ↔
    s.inReset = false ∧
      ((∃ i, i < 12 ∧ i ≠ 2 ∧ s.irq.status.getLsbD i = true ∧ s.irq.enable.getLsbD i = true) ∨
        (s.irq.enable.getLsbD 2 = true ∧ ∃ q, (s.rxQueue q).events ≠ 0))) ∧
  (∀ s : State,
    s.readWord 0x00 = (match s.cmd.last with | some code => code | none => 0) ∧
    s.readWord 0x09 = (match s.cmd.result with
      | .ok => 0 | .unknown => 1 | .badArg => 2 | .wrongState => 3 | .noSpace => 4 | .queueFull => 5 | .order => 6
      | .incomplete => 7 | .notFound => 8 | .inFlight => 9 | .windowBusy => 10 | .noWindow => 11 | .noRecord => 12
      | .timeBusy => 13 | .empty => 14) ∧
    (s.readWord 0x0A).toNat =
      flagAt s.cmd.running.isSome 0 + flagAt s.cmd.refused 1 + flagAt s.cmd.last.isSome 2 ∧
    (∀ i, (s.readWord 0x0B).getLsbD i = true ↔
      (i < 12 ∧ i ≠ 2 ∧ s.irq.status.getLsbD i = true) ∨ (i = 2 ∧ ∃ q, (s.rxQueue q).events ≠ 0)) ∧
    s.readWord 0x0C = s.irq.enable.setWidth 16 ∧
    (∀ q : RxQueueId, (s.readWord 0x0D).getLsbD q.val = true ↔ (s.rxQueue q).events ≠ 0) ∧
    (s.readWord 0x12).toNat =
      s.time.divisor.toNat + flagAt s.time.pendingDivisor.isSome 14 + flagAt s.time.pendingSet.isSome 15 ∧
    (-32768 ≤ s.time.slew → s.time.slew ≤ 32767 → (s.readWord 0x13).toInt = s.time.slew) ∧
    s.readWord 0x26 = (match s.window.direction with | .rx => 0 | .tx => 1) ∧
    (s.readWord 0x31).toNat = s.pool.freeCells % 65536 ∧ (s.readWord 0x32).toNat = s.pool.freeDescs % 65536 ∧
    (s.readWord 0x33).toNat = (match s.fillingCells with | some n => 32768 + n % 8 | none => 0) +
      (match s.staging.record with | some r => 16 * cellsFor r.length.toNat | none => 0) ∧
    s.readWord 0x39 = 0x4204) ∧
  (∀ s : State,
    let r := s.rxQueue s.host.qsel
    let x := s.txQueue s.host.tsel
    (s.readWord 0x35).toNat =
      (match r.state with
       | .off => 0 | .pending => 1 | .run => 2 | .grace => 3
       | .stopped .batchDone => 20 | .stopped .relayMissed => 52 | .stopped .windowEnd => 84
       | .held .run => 133 | .held .grace => 389) +
      flagAt r.flush 3 + flagAt r.batchComplete 9 + flagAt (decide (r.config.watermark ≤ r.records.length)) 10 ∧
    (s.readWord 0x36).toNat = r.records.length % 65536 ∧ (s.readWord 0x37).toNat = r.cellCount % 65536 ∧
    s.readWord 0x38 = r.events.setWidth 16 ∧
    (s.readWord 0x3B).toNat = flagAt x.paused 0 + flagAt x.flush 1 +
      (match s.txf.state with
       | .idle => 0
       | .waitingLine u _ _ => if u = s.host.tsel then 4 else 0
       | .sending a => if a.queue = s.host.tsel then 12 else 0) +
      (match x.entries with | [] => 0 | _ :: _ => 16) ∧
    (s.readWord 0x3C).toNat = x.entries.length % 128 + 128 * (x.cellCount % 512) ∧
    (s.readWord 0x3D).toNat = flagAt s.rxf.lineRx 0 + flagAt s.txf.lineTx 1 +
      (match s.rxf.state with | .hunt => 0 | .header _ => 4 | .body _ => 8 | .discard => 12) +
      let attempts (u : TxQueueId) : Nat := match (s.txQueue u).entries with | [] => 0 | e :: _ => e.attempts % 16
      match s.txf.state with
      | .idle => 0
      | .waitingLine u _ _ => 80 + 128 * u.val + 512 * attempts u
      | .sending a => 96 + 128 * a.queue.val + 512 * attempts a.queue) ∧
  ∀ s : State,
    let r := s.rxQueue s.host.qsel
    let x := s.txQueue s.host.tsel
    let item (n : Nat) : Word :=
      ({ s with host := { s.host with auxSel := BitVec.ofNat 6 n } } : State).readWord 0x3F
    item 0 ++ item 1 = r.admitted ∧ item 2 ++ item 3 = r.lost ∧ item 4 ++ item 5 = r.refused ∧
    item 6 ++ item 7 = r.rejected ∧ item 8 = r.pendingLoss ∧ item 9 = r.batchCount ∧
    (item 10).toNat = r.config.quota % 65536 ∧
    (item 11).toNat = (match r.config.mode with | .continuous => 0 | .singleBatch => 1 | .relayBatch => 2) +
      (match r.config.overrun with | .drop => 0 | .hold => 4) +
      (match r.window.start with | .now => 0 | .atTime _ => 16 | .atMarker => 32) +
      flagAt r.window.stop.isSome 6 ∧
    item 12 = r.config.batchSize ∧ (item 13).toNat = r.config.watermark % 65536 ∧
    (∀ T, r.window.start = .atTime T → item 14 ++ item 15 = T.coarse ∧ item 16 = T.fine.setWidth 16) ∧
    ((∀ T, r.window.start ≠ .atTime T) → item 14 = 0 ∧ item 15 = 0 ∧ item 16 = 0) ∧
    (∀ S, r.window.stop = some S → item 17 ++ item 18 = S.coarse ∧ item 19 = S.fine.setWidth 16) ∧
    (r.window.stop = none → item 17 = 0 ∧ item 18 = 0 ∧ item 19 = 0) ∧
    (item 20).toNat = x.config.depth % 65536 ∧ item 21 = x.config.tolerance ∧
    (item 22).toNat = (match x.config.late with | .sendLate => 0 | .dropLate => 1) + 16 * (x.config.retryLimit % 8) ∧
    item 23 = (match x.entries with | [] => 0 | e :: _ => e.tag) ∧
    (item 24).toNat = s.pool.cellReserve % 65536 ∧ (item 25).toNat = s.pool.descReserve % 65536 ∧
    (item 26).toNat = s.pool.lowThreshold % 65536 ∧ item 27 = s.rxf.packetsSeen ∧ item 28 = s.rxf.headerErrors ∧
    item 29 = s.rxf.strayBytes ∧ item 30 = s.rxf.unrouted ∧ item 31 = s.reports.lost ∧
    item 32 = (match s.time.pendingDivisor with | some d => d.setWidth 16 | none => 0) ∧
    item 33 ++ item 34 = s.time.pendingSet.getD 0 ∧
    ∀ n, 35 ≤ n → n ≤ 63 → item n = 0

/-! ## Transmit staging and transmit queues (07) -/

/-- TX_SUBMIT makes its checks in order; when all pass, the staging record becomes the tail of its queue without moving
anything in the pool, staging closes, and the scheduler selects if it can. An immediate entry, and a timed one whose
time is reached, is due at once; an immediate one that finds an idle transmitter and an empty queue is selected in the
same change (R116, R131, R132). -/
def Obligations.TxSubmitJoinsTheTail : Prop :=
  ∀ s, s.takesCommands →
    (s.staging.record = none → exec .txSubmit s = .next (s.doneWith 0x42 .noWindow)) ∧
    ∀ r, s.staging.record = some r →
      let x := s.txQueue r.queue
      let early : Prop := ∃ T U, r.launch = some T ∧ (∃ e ∈ x.entries, e.launch = some U) ∧ T.before U = true
      let due : Bool := match r.launch with | none => true | some T => !s.time.now.before T
      let joined : State :=
        { s.setTxQueue r.queue { x with
            entries := x.entries ++
              [{ channel := r.channel, kind := r.kind, marker := r.marker, insertTime := r.insertTime,
                 length := r.length, launch := r.launch, tag := r.tag, payload := r.payload, due := due, attempts := 0,
                 sequenceUsed := none, startStamp := none }] } with
          staging := { s.staging with record := none } }
      (r.payload.length < r.length.toNat → exec .txSubmit s = .next (s.doneWith 0x42 .incomplete)) ∧
      (r.length.toNat ≤ r.payload.length → x.config.depth ≤ x.entries.length →
        exec .txSubmit s = .next (s.doneWith 0x42 .queueFull)) ∧
      (r.length.toNat ≤ r.payload.length → x.entries.length < x.config.depth → early →
        exec .txSubmit s = .next (s.doneWith 0x42 .order)) ∧
      (r.length.toNat ≤ r.payload.length → x.entries.length < x.config.depth → ¬early →
        exec .txSubmit s = .next (joined.select.doneWith 0x42 .ok) ∧
        (s.TransmitterHolds → exec .txSubmit s = .next (joined.doneWith 0x42 .ok)) ∧
        (s.txf.state = .idle → s.txf.lineTx = true → s.NothingToSelect → x.entries = [] → x.paused = false →
          x.flush = false → r.launch = none →
          exec .txSubmit s = .next ((joined.setTxFramer (.waitingLine r.queue false false)).doneWith 0x42 .ok)))

/-- TX_ABANDON discards the staging record and returns its descriptor and cells, whatever its write offset, with no
report; while staging is CLOSED it is NO_WINDOW (R118). -/
def Obligations.TxAbandonReturnsTheStagingRecord : Prop :=
  ∀ s, s.takesCommands →
    (s.staging.record = none → exec .txAbandon s = .next (s.doneWith 0x43 .noWindow)) ∧
    ∀ r, s.staging.record = some r → exec .txAbandon s = .next
      (({ s with staging := { s.staging with record := none }
                 pool := { s.pool with freeCells := s.pool.freeCells + cellsFor r.length.toNat
                                       freeDescs := s.pool.freeDescs + 1 } } : State).doneWith 0x43 .ok)

/-- TX_PAUSE and TX_START set the state of a queue, and LINE_TX the enable of the transmitter, where an entry in
WAITING_LINE returns to its queue head with LINE_TX off and one in SENDING goes on. TX_START and LINE_TX on are followed
by a selection in the same change if one can be made, as by that of an immediate due head (R121, R132, R144). -/
def Obligations.PauseStartAndLineTx : Prop :=
  ∀ s, s.takesCommands →
    (∀ t : TxQueueId, s.cmd.operands.a.toNat = t.val →
      let x := s.txQueue t
      let started := s.setTxQueue t { x with paused := false }
      exec .txPause s = .next ((s.setTxQueue t { x with paused := true }).doneWith 0x45 .ok) ∧
      exec .txStart s = .next (started.select.doneWith 0x46 .ok) ∧
      (s.TransmitterHolds → exec .txStart s = .next (started.doneWith 0x46 .ok)) ∧
      (∀ e rest, s.txf.state = .idle → s.txf.lineTx = true → x.entries = e :: rest → e.due = true → e.launch = none →
        x.flush = false → (∀ u, u ≠ t → (s.txQueue u).dueHead = none) → exec .txStart s = .next
          ((started.setTxFramer (.waitingLine t false false)).doneWith 0x46 .ok))) ∧
    (1 < s.cmd.operands.a.toNat → exec .lineTx s = .next (s.doneWith 0x48 .badArg)) ∧
    (s.cmd.operands.a = 0 → exec .lineTx s = .next
      (({ s with txf :=
          { state := match s.txf.state with
              | .waitingLine _ _ _ => .idle
              | other => other
            lineTx := false } } : State).doneWith 0x48 .ok)) ∧
    (s.cmd.operands.a = 1 → exec .lineTx s = .next
      (({ s with txf := { s.txf with lineTx := true } } : State).select.doneWith 0x48 .ok)) ∧
    (s.cmd.operands.a = 1 → (s.txf.state ≠ .idle ∨ ∀ u, (s.txQueue u).dueHead = none) → exec .lineTx s = .next
      (({ s with txf := { s.txf with lineTx := true } } : State).doneWith 0x48 .ok)) ∧
    ∀ t e rest, s.cmd.operands.a = 1 → s.txf.state = .idle → (s.txQueue t).entries = e :: rest → e.due = true →
      e.launch = none → (s.txQueue t).paused = false → (s.txQueue t).flush = false →
      (∀ u, u ≠ t → (s.txQueue u).dueHead = none) → exec .lineTx s = .next
        (({ s with txf := { state := .waitingLine t false false, lineTx := true } } : State).doneWith 0x48 .ok)

/-- TX_CONFIG writes the four values of an empty queue. TX_CANCEL removes the oldest entry with its tag, with a
CANCELLED report, and the scheduler selects if it can: not found is NOT_FOUND, a SENDING head is IN_FLIGHT, and a head in
WAITING_LINE leaves with the framer IDLE (R27, R120, R122, R132). -/
def Obligations.TxConfigAndTxCancel : Prop :=
  ∀ s (t : TxQueueId), s.takesCommands → s.cmd.operands.a.toNat = t.val →
    let x := s.txQueue t
    let o := s.cmd.operands
    (∀ g : TxConfig, o.b.toNat = g.depth → o.c = g.tolerance →
      o.d = (match g.late with | .sendLate => 0 | .dropLate => 1) → o.e.toNat = g.retryLimit → 1 ≤ g.depth →
      g.depth ≤ 64 → g.retryLimit ≤ 7 →
      (x.entries = [] → exec .txConfig s = .next ((s.setTxQueue t { x with config := g }).doneWith 0x40 .ok)) ∧
      (x.entries ≠ [] → exec .txConfig s = .next (s.doneWith 0x40 .wrongState))) ∧
    ((o.b = 0 ∨ 64 < o.b.toNat ∨ 1 < o.d.toNat ∨ 7 < o.e.toNat) →
      exec .txConfig s = .next (s.doneWith 0x40 .badArg)) ∧
    ((∀ e ∈ x.entries, e.tag ≠ o.b) → exec .txCancel s = .next (s.doneWith 0x44 .notFound)) ∧
    ∀ before e after, x.entries = before ++ e :: after → (∀ e' ∈ before, e'.tag ≠ o.b) → e.tag = o.b →
      let left : State :=
        ((s.appendReport (reportOf t e .cancelled)).setTxQueue t
          { x with entries := before ++ after }).returnHolder e.cells
      (before = [] → (∃ a, s.txf.state = .sending a ∧ a.queue = t) →
        exec .txCancel s = .next (s.doneWith 0x44 .inFlight)) ∧
      ((before ≠ [] ∨ s.txf.state.inFlightQueue ≠ some t) →
        exec .txCancel s = .next (left.select.doneWith 0x44 .ok) ∧
        (s.TransmitterHolds → exec .txCancel s = .next (left.doneWith 0x44 .ok))) ∧
      (before = [] → (∃ armed setBack, s.txf.state = .waitingLine t armed setBack) →
        exec .txCancel s = .next ((left.setTxFramer .idle).select.doneWith 0x44 .ok) ∧
        (s.NothingFollows t after → exec .txCancel s = .next ((left.setTxFramer .idle).doneWith 0x44 .ok)))

/-- TX_FLUSH makes the unit BUSY with the queue's flag set, and completes at once when the queue holds no entry but a
SENDING head. Each removal takes the oldest entry that is not SENDING, with a FLUSHED report, and the last one
completes the flush; a head in WAITING_LINE leaves with the framer IDLE. Whatever event of the transmit side leaves the
queue so, the flush completes in that change, before the selection that follows it (R27, R124, R125, R132; that the
first acceptance of the only entry completes it is the model's inference, log 14). -/
def Obligations.TxFlushRemovesWhatIsNotSending : Prop :=
  (∀ s (t : TxQueueId), s.takesCommands → s.cmd.operands.a.toNat = t.val →
    let x := s.txQueue t
    let sending : Prop := ∃ a, s.txf.state = .sending a ∧ a.queue = t
    (x.entries ≠ [] → ¬(x.entries.length = 1 ∧ sending) → exec .txFlush s = .next
      { s.setTxQueue t { x with flush := true } with
        cmd := { s.cmd with latch := s.cmd.operands, last := some 0x47, running := some (.txFlush t) } }) ∧
    ((x.entries = [] ∨ (x.entries.length = 1 ∧ sending)) → exec .txFlush s = .next
      ((s.setTxQueue t { x with flush := false }).doneWith 0x47 .ok))) ∧
  (∀ s (t : TxQueueId) before e after, s.inReset = false → (s.txQueue t).flush = true →
    (s.txQueue t).entries = before ++ e :: after →
    ((before = [] ∧ ∀ a, s.txf.state = .sending a → a.queue ≠ t) ∨
      (before.length = 1 ∧ ∃ a, s.txf.state = .sending a ∧ a.queue = t)) →
    let x := s.txQueue t
    let reported := s.appendReport (reportOf t e .flushed)
    let framer : TxFramerState := if s.headWaiting t then .idle else s.txf.state
    let left : State :=
      ((reported.setTxQueue t { x with entries := before ++ after }).returnHolder e.cells).setTxFramer framer
    exec (.txFlushRemoval t) s = .next left.afterTransmit ∧
    (s.cmd.running = some (.txFlush t) →
      (s.TransmitterHolds ∧ s.headWaiting t = false ∨ s.txf.lineTx = false ∨
        ∀ u, u ≠ t → (s.txQueue u).dueHead = none) →
      (after ≠ [] → exec (.txFlushRemoval t) s = .next left) ∧
      (after = [] → (before = [] ∨ framer ≠ .idle) → exec (.txFlushRemoval t) s = .next
        { ((reported.setTxQueue t { x with entries := before, flush := false }).returnHolder e.cells).setTxFramer
            framer with
          cmd := { s.cmd with running := none, result := .ok }
          irq := { reported.irq with status := reported.irq.status ||| 0x001 } }))) ∧
  ∀ s : State,
    (s.FlushHasWork → s.afterTransmit = s.select) ∧
    ∀ t, s.cmd.running = some (.txFlush t) →
      ((s.txQueue t).entries = [] ∨
        ((s.txQueue t).entries.length = 1 ∧ ∃ a, s.txf.state = .sending a ∧ a.queue = t)) →
      s.afterTransmit =
        ({ s.setTxQueue t { s.txQueue t with flush := false } with
           cmd := { s.cmd with running := none, result := .ok }
           irq := { s.irq with status := s.irq.status ||| 0x001 } } : State).select

/-! ## Launching and transmitting (08, 09) -/

/-- The scheduler selects whenever the framer is IDLE, LINE_TX is on, no SOFT_RESET is in progress and a candidate
head is due: the head of a queue that is ENABLED with no flush in progress. It picks the earliest launch time, before any
immediate head, and the lower-numbered queue of equals. The selected head enters WAITING_LINE, with its deadline watcher
armed if it is timed under DROP_LATE, or is dropped at once as LATE_DROPPED when its deadline has passed, and the next
selection follows; with nothing to select nothing changes (R132, R133, R135, R145). -/
def Obligations.SelectionPicksTheEarliestDueHead : Prop :=
  (∀ (x : TxQueue) e, x.dueHead = some e ↔
    ∃ rest, x.entries = e :: rest ∧ e.due = true ∧ x.paused = false ∧ x.flush = false) ∧
  (∀ s : State, (s.selects = none ↔
    (s.txf.state ≠ .idle ∨ s.txf.lineTx = false ∨ s.cmd.running = some .softReset ∨
      ∀ u, (s.txQueue u).dueHead = none)) ∧ (s.selects = none → s.select = s)) ∧
  ∀ (s : State) t, s.selects = some t → ∃ e rest, (s.txQueue t).entries = e :: rest ∧ e.due = true ∧
    (s.txQueue t).paused = false ∧ (s.txQueue t).flush = false ∧
    (∀ u e', u ≠ t → (s.txQueue u).dueHead = some e' →
      (∃ T, e.launch = some T ∧
        (e'.launch = none ∨ ∃ U, e'.launch = some U ∧ (T.before U = true ∨ (T = U ∧ t < u)))) ∨
      (e.launch = none ∧ e'.launch = none ∧ t < u)) ∧
    ((e.launch = none ∨ (s.txQueue t).config.late = .sendLate) →
      s.select = s.setTxFramer (.waitingLine t false false)) ∧
    ∀ T, e.launch = some T → (s.txQueue t).config.late = .dropLate →
      ((T.addTicks (s.txQueue t).config.tolerance).before s.time.now = false →
        s.select = s.setTxFramer (.waitingLine t true false)) ∧
      ((T.addTicks (s.txQueue t).config.tolerance).before s.time.now = true →
        s.select = ((((s.appendReport (reportOf t e .lateDropped)).setTxQueue t
          { s.txQueue t with entries := rest }).returnHolder e.cells).setTxFramer .idle).select)

/-- The launch watcher of a timed entry makes it due once link time has reached its launch time; the deadline watcher
of the entry waiting for the line drops it as LATE_DROPPED once link time has passed its deadline. Time never drops an
entry whose deadline stands at the saturated value: after a backward set, a later count that reaches that value releases
its watcher, which is armed no more, and the entry goes on waiting. A change of link time does this at every entry it
reaches, and a selection, or the completion of a flush, follows. A report joins the tail of the list, with REPORT_READY
for the first, or is lost and counted when the list holds 32 (R11, R12, R131, R132, R135, R137, R145, R150, R151; log 9
is how that release is read, log 5 says why the two rows exist beside the edges, log 8 the order within one change). -/
def Obligations.LaunchAndDeadlineWatchers : Prop :=
  let dropped (s : State) (t : TxQueueId) (e : TxEntry) (rest : List TxEntry) : State :=
    (((s.appendReport
        { tag := e.tag, queue := t, channel := e.channel, result := .lateDropped, attempts := e.attempts,
          sequenceUsed := e.sequenceUsed, startStamp := e.startStamp }).setTxQueue t
      { s.txQueue t with entries := rest }).returnHolder (cellsFor e.length.toNat)).setTxFramer .idle
  (∀ s t (place : Fin 64) e T, s.inReset = false →
    (s.txQueue t).entries[place.val]? = some e → e.launch = some T → e.due = false → s.time.now.before T = false →
    let made := s.setTxQueue t
      { s.txQueue t with entries := (s.txQueue t).entries.set place.val { e with due := true } }
    exec (.launchTimeReached t place) s = .next made.afterTransmit ∧
      (s.TransmitterHolds → s.NoTxFlush → exec (.launchTimeReached t place) s = .next made)) ∧
  (∀ s t setBack e rest T D, s.inReset = false → s.txf.state = .waitingLine t true setBack →
    (s.txQueue t).entries = e :: rest → e.launch = some T → D = T.addTicks (s.txQueue t).config.tolerance →
    (D.before s.time.now = true →
      exec .deadlineExpiry s = .next (dropped s t e rest).afterTransmit ∧
      (s.NoTxFlush → s.NothingFollows t rest → exec .deadlineExpiry s = .next (dropped s t e rest))) ∧
    (D = ⟨4294967295, 4095⟩ → setBack = true → s.time.now.before ⟨4294967295, 4095⟩ = false →
      exec .deadlineExpiry s = .next (s.setTxFramer (.waitingLine t false false))) ∧
    (D.before s.time.now = false →
      (D ≠ ⟨4294967295, 4095⟩ ∨ setBack = false ∨ s.time.now.before ⟨4294967295, 4095⟩ = true) →
      exec .deadlineExpiry s = .next s)) ∧
  (∀ (s : State) (old new : LinkTime), ∃ w : State, w = { s with rxq := w.rxq, txq := w.txq } ∧
    (∀ q, w.rxQueue q = RxQueue.timeChange old new (s.rxQueue q)) ∧
    (∀ u, w.txQueue u = { s.txQueue u with entries := (s.txQueue u).entries.map fun e =>
      { e with due := e.due || (match e.launch with
          | some T => old.before T && !new.before T
          | none => false) } }) ∧
    let passes (t : TxQueueId) (T : LinkTime) : Prop :=
      let D := T.addTicks (s.txQueue t).config.tolerance
      D.before old = false ∧ D.before new = true
    let releases (t : TxQueueId) (T : LinkTime) (setBack : Bool) : Prop :=
      setBack = true ∧ T.addTicks (s.txQueue t).config.tolerance = ⟨4294967295, 4095⟩ ∧
        old.before ⟨4294967295, 4095⟩ = true ∧ new.before ⟨4294967295, 4095⟩ = false
    (∀ t setBack e rest T, s.txf.state = .waitingLine t true setBack → (w.txQueue t).entries = e :: rest →
      e.launch = some T →
      (passes t T → s.timeChange old new = (dropped w t e rest).afterTransmit) ∧
      (releases t T setBack → s.timeChange old new = (w.setTxFramer (.waitingLine t false false)).afterTransmit)) ∧
    ((∀ t setBack e rest T, s.txf.state = .waitingLine t true setBack → (w.txQueue t).entries = e :: rest →
      e.launch = some T → ¬passes t T ∧ ¬releases t T setBack) → s.timeChange old new = w.afterTransmit)) ∧
  ∀ (s : State) (r : Report),
    (s.reports.list.length < 32 → s.appendReport r =
      { s with reports := { s.reports with list := s.reports.list ++ [r] }
               irq := { s.irq with status := if s.reports.list = [] then s.irq.status ||| 0x200
                                             else s.irq.status } }) ∧
    (32 ≤ s.reports.list.length → s.appendReport r =
      { s with reports := { s.reports with lost := s.reports.lost + 1 }
               irq := { s.irq with status := s.irq.status ||| 0x400 } })

/-- LTRDY is ignored in IDLE. In WAITING_LINE it begins an attempt, with the sequence read from the table unless the
entry has one. In SENDING it accepts the byte presented: the first one takes the start stamp, header and payload enter
the CRC register, and the last one advances the sequence table and finishes the entry as SENT, or as SENT_LATE when
its start stamp is later than its deadline; a selection, or the completion of a flush, follows. The acceptance that
begins the only entry of a queue under flush completes the flush (R68, R125, R136, R140, R141, R145; log 14). -/
def Obligations.LtrdyOffersAndAccepts : Prop :=
  ∀ s : State, s.inReset = false →
    (s.txf.state = .idle → exec .ltrdy s = .next s) ∧
    (∀ t armed setBack e rest, s.txf.state = .waitingLine t armed setBack → (s.txQueue t).entries = e :: rest →
      let begun : TxQueue := { s.txQueue t with entries :=
        { e with attempts := e.attempts + 1
                 sequenceUsed := some (match e.sequenceUsed with | some n => n | none => s.txSequenceOf e.channel) }
          :: rest }
      let framer : TxFramerState :=
        .sending { queue := t, position := 1, firstAccepted := false, crc := 0xFFFF, cut := false }
      exec .ltrdy s = .next ((s.setTxQueue t begun).setTxFramer framer).afterTransmit ∧
      (s.NoTxFlush → exec .ltrdy s = .next ((s.setTxQueue t begun).setTxFramer framer)) ∧
      (s.cmd.running = some (.txFlush t) → rest = [] → exec .ltrdy s = .next
        { (s.setTxQueue t { begun with flush := false }).setTxFramer framer with
          cmd := { s.cmd with running := none, result := .ok }
          irq := { s.irq with status := s.irq.status ||| 0x001 } })) ∧
    ∀ a e rest, s.txf.state = .sending a → a.cut = false → (s.txQueue a.queue).entries = e :: rest →
      let stamped : TxEntry := { e with startStamp := some ⟨s.time.epoch, s.time.now⟩ }
      (a.position = 1 → exec .ltrdy s = .next
        ((s.setTxQueue a.queue { s.txQueue a.queue with entries := stamped :: rest }).setTxFramer
          (.sending { a with position := 2, firstAccepted := true, crc := crcByte a.crc (stamped.byteAt 1 a.crc) }))) ∧
      (1 < a.position → a.position ≤ 4 + e.length.toNat → exec .ltrdy s = .next
        (s.setTxFramer
          (.sending { a with position := a.position + 1, crc := crcByte a.crc (e.byteAt a.position a.crc) }))) ∧
      (a.position = 5 + e.length.toNat → exec .ltrdy s = .next
        (s.setTxFramer (.sending { a with position := a.position + 1 }))) ∧
      (a.position = 6 + e.length.toNat →
        ∀ result, result = (match e.launch, e.startStamp with
          | some T, some st =>
            if (T.addTicks (s.txQueue a.queue).config.tolerance).before st.time then .sentLate else .sent
          | _, _ => .sent) →
        let finished : State :=
          ((((s.setTxSequence e.channel (s.txSequenceOf e.channel + 1)).appendReport
            (reportOf a.queue e result)).setTxQueue a.queue
              { s.txQueue a.queue with entries := rest }).returnHolder e.cells).setTxFramer .idle
        exec .ltrdy s = .next finished.afterTransmit ∧
        (s.NoTxFlush → s.NothingFollows a.queue rest → exec .ltrdy s = .next finished))

/-- LTABT is ignored in IDLE and WAITING_LINE. In SENDING it ends the attempt: within the retry limit, and if the
entry may still go, the framer waits for the line again, or returns the entry to its queue while LINE_TX is off; else
the entry finishes as ABORTED; a selection, or the completion of a flush, follows. No attempt's end advances the sequence
table (R125, R132, R142, R143, R144). -/
def Obligations.LtabtRetriesOrAborts : Prop :=
  ∀ s : State, s.inReset = false →
    (s.txf.state = .idle → exec .ltabt s = .next s) ∧
    (∀ t armed setBack, s.txf.state = .waitingLine t armed setBack → exec .ltabt s = .next s) ∧
    ∀ a e rest, s.txf.state = .sending a → a.cut = false → (s.txQueue a.queue).entries = e :: rest →
      let g := (s.txQueue a.queue).config
      let mayGo : Prop := e.launch = none ∨ g.late = .sendLate ∨
        ∃ T, e.launch = some T ∧ (T.addTicks g.tolerance).before s.time.now = false
      let again : State := s.setTxFramer
        (.waitingLine a.queue (e.launch.isSome && decide (g.late = .dropLate)) false)
      let aborted : State :=
        (((s.appendReport (reportOf a.queue e .aborted)).setTxQueue a.queue
          { s.txQueue a.queue with entries := rest }).returnHolder e.cells).setTxFramer .idle
      (e.attempts ≤ g.retryLimit → mayGo →
        (s.txf.lineTx = true → exec .ltabt s = .next again.afterTransmit) ∧
        (s.txf.lineTx = false → exec .ltabt s = .next (s.setTxFramer .idle).afterTransmit) ∧
        (s.NoTxFlush →
          (s.txf.lineTx = true → exec .ltabt s = .next again) ∧
          (s.txf.lineTx = false → exec .ltabt s = .next (s.setTxFramer .idle)))) ∧
      ((g.retryLimit < e.attempts ∨ ¬mayGo) →
        exec .ltabt s = .next aborted.afterTransmit ∧
        (s.NoTxFlush → s.NothingFollows a.queue rest → exec .ltabt s = .next aborted))

/-! ## SOFT_RESET (10) -/

/-- What SOFT_RESET changes at its acceptance, where the filling record, the staging record and an entry in WAITING_LINE
return at once: every block keeps its configuration, its tables and its time. If everything of the pool is then free, it
completes in the same change, with RESULT OK and CMD_DONE standing alone; else it runs (R48, R51, R95, R106, R128, R147,
R155, R162, R164, R171). That the WAITING_LINE entry returns in the change of the acceptance is the model's inference (log
13). -/
def Obligations.SoftResetAtItsAcceptance : Prop :=
  ∀ s, s.takesCommands →
    let waiting : Option TxEntry := match s.txf.state with
      | .waitingLine u _ _ => (s.txQueue u).entries.head?
      | _ => none
    let cells := s.pool.freeCells + s.fillingCells.getD 0 + (s.staging.record.map StagingRecord.cells).getD 0 +
      (waiting.map TxEntry.cells).getD 0
    let descs := s.pool.freeDescs + (if s.fillingCells.isSome then 1 else 0) +
      (if s.staging.record.isSome then 1 else 0) + (if waiting.isSome then 1 else 0)
    let left (u : TxQueueId) : List TxEntry :=
      if s.headWaiting u then (s.txQueue u).entries.tail else (s.txQueue u).entries
    let completes : Prop := cells = 1024 ∧ descs = 512
    (completes → ∀ u, left u = []) → ∃ t, exec .softReset s = .next t ∧
    t.pool = { s.pool with freeCells := cells, freeDescs := descs } ∧
    (¬completes →
      t.cmd = { s.cmd with latch := s.cmd.operands, last := some 0x60, running := some .softReset, refused := false } ∧
      t.irq = { s.irq with status := 0 }) ∧
    (completes →
      t.cmd = { s.cmd with latch := s.cmd.operands, last := some 0x60, running := none, result := .ok,
                           refused := false } ∧
      t.irq = { s.irq with status := 0x001 }) ∧
    t.time = s.time ∧ t.channels = s.channels ∧ t.txSequence = s.txSequence ∧ t.host = s.host ∧
    t.window = { s.window with record := none } ∧ t.staging = { s.staging with record := none } ∧
    t.reports = { s.reports with list := [] } ∧
    (∀ q, t.rxQueue q =
      { s.rxQueue q with state := .off, batchCount := 0, batchComplete := false, pendingLoss := 0, flush := false,
                         events := 0 }) ∧
    t.rxf = { s.rxf with state := match s.rxf.state with
      | .hunt => .hunt
      | _ => .discard } ∧
    t.txf = { s.txf with state := match s.txf.state with
      | .sending a => .sending { a with cut := true }
      | _ => .idle } ∧
    (∀ u, t.txQueue u =
      { s.txQueue u with flush := false, entries := left u })

/-- The removals of SOFT_RESET and the end of a cut return one holder each, without a report, and the return that
makes every cell and descriptor free completes the command. When what returns at the acceptance is all that is held it
completes there, with CMD_DONE standing alone (SoftResetAtItsAcceptance says the rest of what the acceptance leaves);
that the WAITING_LINE entry counts among what returns there is the model's inference, log 13 (R95, R128, R147, R162,
R163, R164). -/
def Obligations.SoftResetRemovalsAndCompletion : Prop :=
  (∀ s, s.takesCommands →
    let waiting : Option TxEntry := match s.txf.state with
      | .waitingLine u _ _ => (s.txQueue u).entries.head?
      | _ => none
    s.pool.freeCells + s.fillingCells.getD 0 + (s.staging.record.map StagingRecord.cells).getD 0 +
      (waiting.map TxEntry.cells).getD 0 = 1024 →
    s.pool.freeDescs + (if s.fillingCells.isSome then 1 else 0) + (if s.staging.record.isSome then 1 else 0) +
      (if waiting.isSome then 1 else 0) = 512 →
    (∀ u, (if s.headWaiting u then (s.txQueue u).entries.tail else (s.txQueue u).entries) = []) →
    ∃ t, exec .softReset s = .next t ∧ t.cmd.running = none ∧ t.cmd.result = .ok ∧ t.cmd.last = some 0x60 ∧
      t.irq.status = 0x001 ∧ ∀ q, (t.rxQueue q).state = .off) ∧
  ∀ s : State, s.inReset = false → s.cmd.running = some .softReset →
    let full (n : Nat) : Prop := s.pool.freeCells + n = 1024 ∧ s.pool.freeDescs + 1 = 512
    let completed (t : State) : State :=
      { t with cmd := { t.cmd with running := none, result := .ok }
               irq := { t.irq with status := t.irq.status ||| 0x001 } }
    (∀ q rec rest, (s.rxQueue q).records = rec :: rest →
      let t := (s.setRxQueue q { s.rxQueue q with records := rest }).returnHolder rec.cells
      (¬full rec.cells → exec (.softResetRxRemoval q) s = .next t) ∧
      (full rec.cells → (∀ u, (s.txQueue u).entries = []) →
        exec (.softResetRxRemoval q) s = .next (completed t))) ∧
    (∀ u e rest, (s.txQueue u).entries = e :: rest → s.txf.state.inFlightQueue ≠ some u →
      let t := (s.setTxQueue u { s.txQueue u with entries := rest }).returnHolder e.cells
      (¬full e.cells → exec (.softResetTxRemoval u) s = .next t) ∧
      (full e.cells → rest = [] → (∀ v, v ≠ u → (s.txQueue v).entries = []) →
        exec (.softResetTxRemoval u) s = .next (completed t))) ∧
    (∀ a h e rest, s.txf.state = .sending a → (s.txQueue a.queue).entries = h :: e :: rest → ¬full e.cells →
      exec (.softResetTxRemoval a.queue) s = .next
        ((s.setTxQueue a.queue { s.txQueue a.queue with entries := h :: rest }).returnHolder e.cells)) ∧
    ∀ a e rest c, s.txf.state = .sending a → a.cut = true → (s.txQueue a.queue).entries = e :: rest →
      (c = .ltrdy ∨ c = .ltabt) →
      let t := ((s.setTxQueue a.queue { s.txQueue a.queue with entries := rest }).returnHolder e.cells).setTxFramer .idle
      (¬full e.cells → exec c s = .next t) ∧
      (full e.cells → rest = [] → (∀ u, u ≠ a.queue → (s.txQueue u).entries = []) → exec c s = .next (completed t))

/-! ## Invariants that every step keeps -/

/-- Cells and descriptors are conserved: with the payload of the filling record within its reservation, free ones and
held ones total 1024 and 512 after every step (R18). -/
def Obligations.EveryStepConservesThePool : Prop :=
  ∀ s t, s.PoolConserved → s.FillingFits → step s = .next t → t.PoolConserved ∧ t.FillingFits

/-- Every step keeps the ranges of the time base and the bounds of the reference list and the report list (01; R14,
R150). -/
def Obligations.EveryStepKeepsTheTimeBaseAndListsInRange : Prop :=
  ∀ s t, s.time.InRange → s.ListsBounded → step s = .next t → t.time.InRange ∧ t.ListsBounded

/-- Every step keeps each receive queue within its quota, and its BC in agreement with its state (R23, R80, R81). -/
def Obligations.EveryStepKeepsQuotasAndBatches : Prop :=
  ∀ s t, s.QuotasKept → s.BatchesAgree → step s = .next t → t.QuotasKept ∧ t.BatchesAgree

/-- Every step keeps each transmit queue within its depth, its launch times from decreasing, and the attempts of its
entries within the retry limit (R119, R142). -/
def Obligations.EveryStepKeepsTransmitQueuesInOrder : Prop :=
  ∀ s t, s.DepthsKept → s.LaunchesOrdered → s.AttemptsBounded → step s = .next t →
    t.DepthsKept ∧ t.LaunchesOrdered ∧ t.AttemptsBounded

/-- At every step the flush flags agree with the command unit, and the open record is the head of its queue (R92, R97,
R125). -/
def Obligations.EveryStepKeepsTheOpenRecordAtTheHead : Prop :=
  ∀ s t, s.FlushFlagsAgree → s.OpenIsHead → step s = .next t → t.FlushFlagsAgree ∧ t.OpenIsHead

/-- At every step the transmitter never waits for a further event while a due candidate could be selected (R132,
R133). -/
def Obligations.EveryStepLeavesNothingToSelect : Prop :=
  ∀ s t, s.FlushFlagsAgree → s.NothingToSelect → step s = .next t → t.FlushFlagsAgree ∧ t.NothingToSelect

/-- At every step the entry in flight is the head of its queue, and no watcher of link time is left behind link time: an
awaited start or stop time and the launch time of an entry that is not due lie ahead, and an armed deadline is not
passed, nor, at the saturated value, reached after a backward set (R12, R76, R77, R130, R131, R136, R137). Three things
in this are the model's: that the edge which reaches a time answers its watcher in its own step is the inference of
log 5, which receive watchers are armed is the inference of log 6, and how the watcher of a saturated deadline is
released after a backward set is the inference of log 9. -/
def Obligations.EveryStepLeavesNoWatcherBehind : Prop :=
  ∀ s t, s.InFlightIsHead → s.WatchersAhead → step s = .next t → t.InFlightIsHead ∧ t.WatchersAhead

/-- While a SOFT_RESET is in progress, every step keeps the queues OFF, the window and staging CLOSED, nothing
filling, and nothing in flight but a cut entry; and an entry is being cut only then (R147, R163). -/
def Obligations.EveryStepKeepsSoftResetQuiet : Prop :=
  ∀ s t, s.SoftResetQuiet → s.FlushFlagsAgree → s.InFlightIsHead → s.FillingFits → s.PoolConserved →
    step s = .next t → t.SoftResetQuiet

/-- The state after reset meets every invariant above (R174). -/
def Obligations.ResetMeetsTheInvariants : Prop :=
  let s := State.reset
  s.PoolConserved ∧ s.FillingFits ∧ s.time.InRange ∧ s.ListsBounded ∧ s.QuotasKept ∧ s.BatchesAgree ∧ s.DepthsKept ∧
    s.LaunchesOrdered ∧ s.AttemptsBounded ∧ s.FlushFlagsAgree ∧ s.OpenIsHead ∧ s.NothingToSelect ∧
    s.InFlightIsHead ∧ s.WatchersAhead ∧ s.SoftResetQuiet
end

