-- ==== Sys2Proof/Laws/State.lean ====
section
/-! SUPPORT. What each update of the state leaves in each field, one lemma per field per update, all true by `rfl`, and
what a table or queue reads as after a write to it. -/

namespace Sys2Proof.Machine

variable (s : State)

/-! ### setChannel -/

@[simp] theorem State.setChannel_inReset (c : ChannelId) (e : ChannelEntry) :
    (s.setChannel c e).inReset = s.inReset := rfl
@[simp] theorem State.setChannel_time (c : ChannelId) (e : ChannelEntry) : (s.setChannel c e).time = s.time := rfl
@[simp] theorem State.setChannel_pool (c : ChannelId) (e : ChannelEntry) : (s.setChannel c e).pool = s.pool := rfl
@[simp] theorem State.setChannel_rxf (c : ChannelId) (e : ChannelEntry) : (s.setChannel c e).rxf = s.rxf := rfl
@[simp] theorem State.setChannel_channels (c : ChannelId) (e : ChannelEntry) :
    (s.setChannel c e).channels = s.channels.set c.val e c.isLt := rfl
@[simp] theorem State.setChannel_txSequence (c : ChannelId) (e : ChannelEntry) :
    (s.setChannel c e).txSequence = s.txSequence := rfl
@[simp] theorem State.setChannel_rxq (c : ChannelId) (e : ChannelEntry) : (s.setChannel c e).rxq = s.rxq := rfl
@[simp] theorem State.setChannel_window (c : ChannelId) (e : ChannelEntry) :
    (s.setChannel c e).window = s.window := rfl
@[simp] theorem State.setChannel_staging (c : ChannelId) (e : ChannelEntry) :
    (s.setChannel c e).staging = s.staging := rfl
@[simp] theorem State.setChannel_txq (c : ChannelId) (e : ChannelEntry) : (s.setChannel c e).txq = s.txq := rfl
@[simp] theorem State.setChannel_txf (c : ChannelId) (e : ChannelEntry) : (s.setChannel c e).txf = s.txf := rfl
@[simp] theorem State.setChannel_reports (c : ChannelId) (e : ChannelEntry) :
    (s.setChannel c e).reports = s.reports := rfl
@[simp] theorem State.setChannel_cmd (c : ChannelId) (e : ChannelEntry) : (s.setChannel c e).cmd = s.cmd := rfl
@[simp] theorem State.setChannel_irq (c : ChannelId) (e : ChannelEntry) : (s.setChannel c e).irq = s.irq := rfl
@[simp] theorem State.setChannel_host (c : ChannelId) (e : ChannelEntry) : (s.setChannel c e).host = s.host := rfl
@[simp] theorem State.setChannel_pending (c : ChannelId) (e : ChannelEntry) :
    (s.setChannel c e).pending = s.pending := rfl

/-! ### setTxSequence -/

@[simp] theorem State.setTxSequence_inReset (c : ChannelId) (v : BitVec 4) :
    (s.setTxSequence c v).inReset = s.inReset := rfl
@[simp] theorem State.setTxSequence_time (c : ChannelId) (v : BitVec 4) : (s.setTxSequence c v).time = s.time := rfl
@[simp] theorem State.setTxSequence_pool (c : ChannelId) (v : BitVec 4) : (s.setTxSequence c v).pool = s.pool := rfl
@[simp] theorem State.setTxSequence_rxf (c : ChannelId) (v : BitVec 4) : (s.setTxSequence c v).rxf = s.rxf := rfl
@[simp] theorem State.setTxSequence_channels (c : ChannelId) (v : BitVec 4) :
    (s.setTxSequence c v).channels = s.channels := rfl
@[simp] theorem State.setTxSequence_txSequence (c : ChannelId) (v : BitVec 4) :
    (s.setTxSequence c v).txSequence = s.txSequence.set c.val v c.isLt := rfl
@[simp] theorem State.setTxSequence_rxq (c : ChannelId) (v : BitVec 4) : (s.setTxSequence c v).rxq = s.rxq := rfl
@[simp] theorem State.setTxSequence_window (c : ChannelId) (v : BitVec 4) :
    (s.setTxSequence c v).window = s.window := rfl
@[simp] theorem State.setTxSequence_staging (c : ChannelId) (v : BitVec 4) :
    (s.setTxSequence c v).staging = s.staging := rfl
@[simp] theorem State.setTxSequence_txq (c : ChannelId) (v : BitVec 4) : (s.setTxSequence c v).txq = s.txq := rfl
@[simp] theorem State.setTxSequence_txf (c : ChannelId) (v : BitVec 4) : (s.setTxSequence c v).txf = s.txf := rfl
@[simp] theorem State.setTxSequence_reports (c : ChannelId) (v : BitVec 4) :
    (s.setTxSequence c v).reports = s.reports := rfl
@[simp] theorem State.setTxSequence_cmd (c : ChannelId) (v : BitVec 4) : (s.setTxSequence c v).cmd = s.cmd := rfl
@[simp] theorem State.setTxSequence_irq (c : ChannelId) (v : BitVec 4) : (s.setTxSequence c v).irq = s.irq := rfl
@[simp] theorem State.setTxSequence_host (c : ChannelId) (v : BitVec 4) : (s.setTxSequence c v).host = s.host := rfl
@[simp] theorem State.setTxSequence_pending (c : ChannelId) (v : BitVec 4) :
    (s.setTxSequence c v).pending = s.pending := rfl

/-! ### setRxQueue -/

@[simp] theorem State.setRxQueue_inReset (q : RxQueueId) (r : RxQueue) : (s.setRxQueue q r).inReset = s.inReset := rfl
@[simp] theorem State.setRxQueue_time (q : RxQueueId) (r : RxQueue) : (s.setRxQueue q r).time = s.time := rfl
@[simp] theorem State.setRxQueue_pool (q : RxQueueId) (r : RxQueue) : (s.setRxQueue q r).pool = s.pool := rfl
@[simp] theorem State.setRxQueue_rxf (q : RxQueueId) (r : RxQueue) : (s.setRxQueue q r).rxf = s.rxf := rfl
@[simp] theorem State.setRxQueue_channels (q : RxQueueId) (r : RxQueue) :
    (s.setRxQueue q r).channels = s.channels := rfl
@[simp] theorem State.setRxQueue_txSequence (q : RxQueueId) (r : RxQueue) :
    (s.setRxQueue q r).txSequence = s.txSequence := rfl
@[simp] theorem State.setRxQueue_rxq (q : RxQueueId) (r : RxQueue) :
    (s.setRxQueue q r).rxq = s.rxq.set q.val r q.isLt := rfl
@[simp] theorem State.setRxQueue_window (q : RxQueueId) (r : RxQueue) : (s.setRxQueue q r).window = s.window := rfl
@[simp] theorem State.setRxQueue_staging (q : RxQueueId) (r : RxQueue) : (s.setRxQueue q r).staging = s.staging := rfl
@[simp] theorem State.setRxQueue_txq (q : RxQueueId) (r : RxQueue) : (s.setRxQueue q r).txq = s.txq := rfl
@[simp] theorem State.setRxQueue_txf (q : RxQueueId) (r : RxQueue) : (s.setRxQueue q r).txf = s.txf := rfl
@[simp] theorem State.setRxQueue_reports (q : RxQueueId) (r : RxQueue) : (s.setRxQueue q r).reports = s.reports := rfl
@[simp] theorem State.setRxQueue_cmd (q : RxQueueId) (r : RxQueue) : (s.setRxQueue q r).cmd = s.cmd := rfl
@[simp] theorem State.setRxQueue_irq (q : RxQueueId) (r : RxQueue) : (s.setRxQueue q r).irq = s.irq := rfl
@[simp] theorem State.setRxQueue_host (q : RxQueueId) (r : RxQueue) : (s.setRxQueue q r).host = s.host := rfl
@[simp] theorem State.setRxQueue_pending (q : RxQueueId) (r : RxQueue) : (s.setRxQueue q r).pending = s.pending := rfl

/-! ### setTxQueue -/

@[simp] theorem State.setTxQueue_inReset (t : TxQueueId) (x : TxQueue) : (s.setTxQueue t x).inReset = s.inReset := rfl
@[simp] theorem State.setTxQueue_time (t : TxQueueId) (x : TxQueue) : (s.setTxQueue t x).time = s.time := rfl
@[simp] theorem State.setTxQueue_pool (t : TxQueueId) (x : TxQueue) : (s.setTxQueue t x).pool = s.pool := rfl
@[simp] theorem State.setTxQueue_rxf (t : TxQueueId) (x : TxQueue) : (s.setTxQueue t x).rxf = s.rxf := rfl
@[simp] theorem State.setTxQueue_channels (t : TxQueueId) (x : TxQueue) :
    (s.setTxQueue t x).channels = s.channels := rfl
@[simp] theorem State.setTxQueue_txSequence (t : TxQueueId) (x : TxQueue) :
    (s.setTxQueue t x).txSequence = s.txSequence := rfl
@[simp] theorem State.setTxQueue_rxq (t : TxQueueId) (x : TxQueue) : (s.setTxQueue t x).rxq = s.rxq := rfl
@[simp] theorem State.setTxQueue_window (t : TxQueueId) (x : TxQueue) : (s.setTxQueue t x).window = s.window := rfl
@[simp] theorem State.setTxQueue_staging (t : TxQueueId) (x : TxQueue) : (s.setTxQueue t x).staging = s.staging := rfl
@[simp] theorem State.setTxQueue_txq (t : TxQueueId) (x : TxQueue) :
    (s.setTxQueue t x).txq = s.txq.set t.val x t.isLt := rfl
@[simp] theorem State.setTxQueue_txf (t : TxQueueId) (x : TxQueue) : (s.setTxQueue t x).txf = s.txf := rfl
@[simp] theorem State.setTxQueue_reports (t : TxQueueId) (x : TxQueue) : (s.setTxQueue t x).reports = s.reports := rfl
@[simp] theorem State.setTxQueue_cmd (t : TxQueueId) (x : TxQueue) : (s.setTxQueue t x).cmd = s.cmd := rfl
@[simp] theorem State.setTxQueue_irq (t : TxQueueId) (x : TxQueue) : (s.setTxQueue t x).irq = s.irq := rfl
@[simp] theorem State.setTxQueue_host (t : TxQueueId) (x : TxQueue) : (s.setTxQueue t x).host = s.host := rfl
@[simp] theorem State.setTxQueue_pending (t : TxQueueId) (x : TxQueue) : (s.setTxQueue t x).pending = s.pending := rfl

/-! ### setTxFramer -/

@[simp] theorem State.setTxFramer_inReset (f : TxFramerState) : (s.setTxFramer f).inReset = s.inReset := rfl
@[simp] theorem State.setTxFramer_time (f : TxFramerState) : (s.setTxFramer f).time = s.time := rfl
@[simp] theorem State.setTxFramer_pool (f : TxFramerState) : (s.setTxFramer f).pool = s.pool := rfl
@[simp] theorem State.setTxFramer_rxf (f : TxFramerState) : (s.setTxFramer f).rxf = s.rxf := rfl
@[simp] theorem State.setTxFramer_channels (f : TxFramerState) : (s.setTxFramer f).channels = s.channels := rfl
@[simp] theorem State.setTxFramer_txSequence (f : TxFramerState) : (s.setTxFramer f).txSequence = s.txSequence := rfl
@[simp] theorem State.setTxFramer_rxq (f : TxFramerState) : (s.setTxFramer f).rxq = s.rxq := rfl
@[simp] theorem State.setTxFramer_window (f : TxFramerState) : (s.setTxFramer f).window = s.window := rfl
@[simp] theorem State.setTxFramer_staging (f : TxFramerState) : (s.setTxFramer f).staging = s.staging := rfl
@[simp] theorem State.setTxFramer_txq (f : TxFramerState) : (s.setTxFramer f).txq = s.txq := rfl
@[simp] theorem State.setTxFramer_txf (f : TxFramerState) : (s.setTxFramer f).txf = { s.txf with state := f } := rfl
@[simp] theorem State.setTxFramer_reports (f : TxFramerState) : (s.setTxFramer f).reports = s.reports := rfl
@[simp] theorem State.setTxFramer_cmd (f : TxFramerState) : (s.setTxFramer f).cmd = s.cmd := rfl
@[simp] theorem State.setTxFramer_irq (f : TxFramerState) : (s.setTxFramer f).irq = s.irq := rfl
@[simp] theorem State.setTxFramer_host (f : TxFramerState) : (s.setTxFramer f).host = s.host := rfl
@[simp] theorem State.setTxFramer_pending (f : TxFramerState) : (s.setTxFramer f).pending = s.pending := rfl

/-! ### setRxFramer -/

@[simp] theorem State.setRxFramer_inReset (f : RxFramerState) : (s.setRxFramer f).inReset = s.inReset := rfl
@[simp] theorem State.setRxFramer_time (f : RxFramerState) : (s.setRxFramer f).time = s.time := rfl
@[simp] theorem State.setRxFramer_pool (f : RxFramerState) : (s.setRxFramer f).pool = s.pool := rfl
@[simp] theorem State.setRxFramer_rxf (f : RxFramerState) : (s.setRxFramer f).rxf = { s.rxf with state := f } := rfl
@[simp] theorem State.setRxFramer_channels (f : RxFramerState) : (s.setRxFramer f).channels = s.channels := rfl
@[simp] theorem State.setRxFramer_txSequence (f : RxFramerState) : (s.setRxFramer f).txSequence = s.txSequence := rfl
@[simp] theorem State.setRxFramer_rxq (f : RxFramerState) : (s.setRxFramer f).rxq = s.rxq := rfl
@[simp] theorem State.setRxFramer_window (f : RxFramerState) : (s.setRxFramer f).window = s.window := rfl
@[simp] theorem State.setRxFramer_staging (f : RxFramerState) : (s.setRxFramer f).staging = s.staging := rfl
@[simp] theorem State.setRxFramer_txq (f : RxFramerState) : (s.setRxFramer f).txq = s.txq := rfl
@[simp] theorem State.setRxFramer_txf (f : RxFramerState) : (s.setRxFramer f).txf = s.txf := rfl
@[simp] theorem State.setRxFramer_reports (f : RxFramerState) : (s.setRxFramer f).reports = s.reports := rfl
@[simp] theorem State.setRxFramer_cmd (f : RxFramerState) : (s.setRxFramer f).cmd = s.cmd := rfl
@[simp] theorem State.setRxFramer_irq (f : RxFramerState) : (s.setRxFramer f).irq = s.irq := rfl
@[simp] theorem State.setRxFramer_host (f : RxFramerState) : (s.setRxFramer f).host = s.host := rfl
@[simp] theorem State.setRxFramer_pending (f : RxFramerState) : (s.setRxFramer f).pending = s.pending := rfl

/-! ### raise -/

@[simp] theorem State.raise_inReset (e : Event) : (s.raise e).inReset = s.inReset := rfl
@[simp] theorem State.raise_time (e : Event) : (s.raise e).time = s.time := rfl
@[simp] theorem State.raise_pool (e : Event) : (s.raise e).pool = s.pool := rfl
@[simp] theorem State.raise_rxf (e : Event) : (s.raise e).rxf = s.rxf := rfl
@[simp] theorem State.raise_channels (e : Event) : (s.raise e).channels = s.channels := rfl
@[simp] theorem State.raise_txSequence (e : Event) : (s.raise e).txSequence = s.txSequence := rfl
@[simp] theorem State.raise_rxq (e : Event) : (s.raise e).rxq = s.rxq := rfl
@[simp] theorem State.raise_window (e : Event) : (s.raise e).window = s.window := rfl
@[simp] theorem State.raise_staging (e : Event) : (s.raise e).staging = s.staging := rfl
@[simp] theorem State.raise_txq (e : Event) : (s.raise e).txq = s.txq := rfl
@[simp] theorem State.raise_txf (e : Event) : (s.raise e).txf = s.txf := rfl
@[simp] theorem State.raise_reports (e : Event) : (s.raise e).reports = s.reports := rfl
@[simp] theorem State.raise_cmd (e : Event) : (s.raise e).cmd = s.cmd := rfl
@[simp] theorem State.raise_irq (e : Event) :
    (s.raise e).irq = { s.irq with status := s.irq.status ||| e.mask } := rfl
@[simp] theorem State.raise_host (e : Event) : (s.raise e).host = s.host := rfl
@[simp] theorem State.raise_pending (e : Event) : (s.raise e).pending = s.pending := rfl

/-! ### returnCells -/

@[simp] theorem State.returnCells_inReset (n : Nat) : (s.returnCells n).inReset = s.inReset := rfl
@[simp] theorem State.returnCells_time (n : Nat) : (s.returnCells n).time = s.time := rfl
@[simp] theorem State.returnCells_pool (n : Nat) :
    (s.returnCells n).pool = { s.pool with freeCells := s.pool.freeCells + n } := rfl
@[simp] theorem State.returnCells_rxf (n : Nat) : (s.returnCells n).rxf = s.rxf := rfl
@[simp] theorem State.returnCells_channels (n : Nat) : (s.returnCells n).channels = s.channels := rfl
@[simp] theorem State.returnCells_txSequence (n : Nat) : (s.returnCells n).txSequence = s.txSequence := rfl
@[simp] theorem State.returnCells_rxq (n : Nat) : (s.returnCells n).rxq = s.rxq := rfl
@[simp] theorem State.returnCells_window (n : Nat) : (s.returnCells n).window = s.window := rfl
@[simp] theorem State.returnCells_staging (n : Nat) : (s.returnCells n).staging = s.staging := rfl
@[simp] theorem State.returnCells_txq (n : Nat) : (s.returnCells n).txq = s.txq := rfl
@[simp] theorem State.returnCells_txf (n : Nat) : (s.returnCells n).txf = s.txf := rfl
@[simp] theorem State.returnCells_reports (n : Nat) : (s.returnCells n).reports = s.reports := rfl
@[simp] theorem State.returnCells_cmd (n : Nat) : (s.returnCells n).cmd = s.cmd := rfl
@[simp] theorem State.returnCells_irq (n : Nat) : (s.returnCells n).irq = s.irq := rfl
@[simp] theorem State.returnCells_host (n : Nat) : (s.returnCells n).host = s.host := rfl
@[simp] theorem State.returnCells_pending (n : Nat) : (s.returnCells n).pending = s.pending := rfl

/-! ### returnHolder -/

@[simp] theorem State.returnHolder_inReset (n : Nat) : (s.returnHolder n).inReset = s.inReset := rfl
@[simp] theorem State.returnHolder_time (n : Nat) : (s.returnHolder n).time = s.time := rfl
@[simp] theorem State.returnHolder_pool (n : Nat) :
    (s.returnHolder n).pool = { s.pool with freeCells := s.pool.freeCells + n, freeDescs := s.pool.freeDescs + 1 } := rfl
@[simp] theorem State.returnHolder_rxf (n : Nat) : (s.returnHolder n).rxf = s.rxf := rfl
@[simp] theorem State.returnHolder_channels (n : Nat) : (s.returnHolder n).channels = s.channels := rfl
@[simp] theorem State.returnHolder_txSequence (n : Nat) : (s.returnHolder n).txSequence = s.txSequence := rfl
@[simp] theorem State.returnHolder_rxq (n : Nat) : (s.returnHolder n).rxq = s.rxq := rfl
@[simp] theorem State.returnHolder_window (n : Nat) : (s.returnHolder n).window = s.window := rfl
@[simp] theorem State.returnHolder_staging (n : Nat) : (s.returnHolder n).staging = s.staging := rfl
@[simp] theorem State.returnHolder_txq (n : Nat) : (s.returnHolder n).txq = s.txq := rfl
@[simp] theorem State.returnHolder_txf (n : Nat) : (s.returnHolder n).txf = s.txf := rfl
@[simp] theorem State.returnHolder_reports (n : Nat) : (s.returnHolder n).reports = s.reports := rfl
@[simp] theorem State.returnHolder_cmd (n : Nat) : (s.returnHolder n).cmd = s.cmd := rfl
@[simp] theorem State.returnHolder_irq (n : Nat) : (s.returnHolder n).irq = s.irq := rfl
@[simp] theorem State.returnHolder_host (n : Nat) : (s.returnHolder n).host = s.host := rfl
@[simp] theorem State.returnHolder_pending (n : Nat) : (s.returnHolder n).pending = s.pending := rfl

/-! ### acceptCommand -/

@[simp] theorem State.acceptCommand_inReset (code : Word) : (s.acceptCommand code).inReset = s.inReset := rfl
@[simp] theorem State.acceptCommand_time (code : Word) : (s.acceptCommand code).time = s.time := rfl
@[simp] theorem State.acceptCommand_pool (code : Word) : (s.acceptCommand code).pool = s.pool := rfl
@[simp] theorem State.acceptCommand_rxf (code : Word) : (s.acceptCommand code).rxf = s.rxf := rfl
@[simp] theorem State.acceptCommand_channels (code : Word) : (s.acceptCommand code).channels = s.channels := rfl
@[simp] theorem State.acceptCommand_txSequence (code : Word) : (s.acceptCommand code).txSequence = s.txSequence := rfl
@[simp] theorem State.acceptCommand_rxq (code : Word) : (s.acceptCommand code).rxq = s.rxq := rfl
@[simp] theorem State.acceptCommand_window (code : Word) : (s.acceptCommand code).window = s.window := rfl
@[simp] theorem State.acceptCommand_staging (code : Word) : (s.acceptCommand code).staging = s.staging := rfl
@[simp] theorem State.acceptCommand_txq (code : Word) : (s.acceptCommand code).txq = s.txq := rfl
@[simp] theorem State.acceptCommand_txf (code : Word) : (s.acceptCommand code).txf = s.txf := rfl
@[simp] theorem State.acceptCommand_reports (code : Word) : (s.acceptCommand code).reports = s.reports := rfl
@[simp] theorem State.acceptCommand_cmd (code : Word) :
    (s.acceptCommand code).cmd = { s.cmd with latch := s.cmd.operands, last := some code } := rfl
@[simp] theorem State.acceptCommand_irq (code : Word) : (s.acceptCommand code).irq = s.irq := rfl
@[simp] theorem State.acceptCommand_host (code : Word) : (s.acceptCommand code).host = s.host := rfl
@[simp] theorem State.acceptCommand_pending (code : Word) : (s.acceptCommand code).pending = s.pending := rfl

/-! ### startLong -/

@[simp] theorem State.startLong_inReset (l : LongCommand) : (s.startLong l).inReset = s.inReset := rfl
@[simp] theorem State.startLong_time (l : LongCommand) : (s.startLong l).time = s.time := rfl
@[simp] theorem State.startLong_pool (l : LongCommand) : (s.startLong l).pool = s.pool := rfl
@[simp] theorem State.startLong_rxf (l : LongCommand) : (s.startLong l).rxf = s.rxf := rfl
@[simp] theorem State.startLong_channels (l : LongCommand) : (s.startLong l).channels = s.channels := rfl
@[simp] theorem State.startLong_txSequence (l : LongCommand) : (s.startLong l).txSequence = s.txSequence := rfl
@[simp] theorem State.startLong_rxq (l : LongCommand) : (s.startLong l).rxq = s.rxq := rfl
@[simp] theorem State.startLong_window (l : LongCommand) : (s.startLong l).window = s.window := rfl
@[simp] theorem State.startLong_staging (l : LongCommand) : (s.startLong l).staging = s.staging := rfl
@[simp] theorem State.startLong_txq (l : LongCommand) : (s.startLong l).txq = s.txq := rfl
@[simp] theorem State.startLong_txf (l : LongCommand) : (s.startLong l).txf = s.txf := rfl
@[simp] theorem State.startLong_reports (l : LongCommand) : (s.startLong l).reports = s.reports := rfl
@[simp] theorem State.startLong_cmd (l : LongCommand) : (s.startLong l).cmd = { s.cmd with running := some l } := rfl
@[simp] theorem State.startLong_irq (l : LongCommand) : (s.startLong l).irq = s.irq := rfl
@[simp] theorem State.startLong_host (l : LongCommand) : (s.startLong l).host = s.host := rfl
@[simp] theorem State.startLong_pending (l : LongCommand) : (s.startLong l).pending = s.pending := rfl

/-! ### completeCommand -/

@[simp] theorem State.completeCommand_inReset (r : Result) : (s.completeCommand r).inReset = s.inReset := rfl
@[simp] theorem State.completeCommand_time (r : Result) : (s.completeCommand r).time = s.time := rfl
@[simp] theorem State.completeCommand_pool (r : Result) : (s.completeCommand r).pool = s.pool := rfl
@[simp] theorem State.completeCommand_rxf (r : Result) : (s.completeCommand r).rxf = s.rxf := rfl
@[simp] theorem State.completeCommand_channels (r : Result) : (s.completeCommand r).channels = s.channels := rfl
@[simp] theorem State.completeCommand_txSequence (r : Result) : (s.completeCommand r).txSequence = s.txSequence := rfl
@[simp] theorem State.completeCommand_rxq (r : Result) : (s.completeCommand r).rxq = s.rxq := rfl
@[simp] theorem State.completeCommand_window (r : Result) : (s.completeCommand r).window = s.window := rfl
@[simp] theorem State.completeCommand_staging (r : Result) : (s.completeCommand r).staging = s.staging := rfl
@[simp] theorem State.completeCommand_txq (r : Result) : (s.completeCommand r).txq = s.txq := rfl
@[simp] theorem State.completeCommand_txf (r : Result) : (s.completeCommand r).txf = s.txf := rfl
@[simp] theorem State.completeCommand_reports (r : Result) : (s.completeCommand r).reports = s.reports := rfl
@[simp] theorem State.completeCommand_cmd (r : Result) : (s.completeCommand r).cmd = { s.cmd with result := r } := rfl
@[simp] theorem State.completeCommand_irq (r : Result) :
    (s.completeCommand r).irq = { s.irq with status := s.irq.status ||| Event.cmdDone.mask } := rfl
@[simp] theorem State.completeCommand_host (r : Result) : (s.completeCommand r).host = s.host := rfl
@[simp] theorem State.completeCommand_pending (r : Result) : (s.completeCommand r).pending = s.pending := rfl

/-! ### completeLong -/

@[simp] theorem State.completeLong_inReset : (s.completeLong).inReset = s.inReset := rfl
@[simp] theorem State.completeLong_time : (s.completeLong).time = s.time := rfl
@[simp] theorem State.completeLong_pool : (s.completeLong).pool = s.pool := rfl
@[simp] theorem State.completeLong_rxf : (s.completeLong).rxf = s.rxf := rfl
@[simp] theorem State.completeLong_channels : (s.completeLong).channels = s.channels := rfl
@[simp] theorem State.completeLong_txSequence : (s.completeLong).txSequence = s.txSequence := rfl
@[simp] theorem State.completeLong_rxq : (s.completeLong).rxq = s.rxq := rfl
@[simp] theorem State.completeLong_window : (s.completeLong).window = s.window := rfl
@[simp] theorem State.completeLong_staging : (s.completeLong).staging = s.staging := rfl
@[simp] theorem State.completeLong_txq : (s.completeLong).txq = s.txq := rfl
@[simp] theorem State.completeLong_txf : (s.completeLong).txf = s.txf := rfl
@[simp] theorem State.completeLong_reports : (s.completeLong).reports = s.reports := rfl
@[simp] theorem State.completeLong_cmd : (s.completeLong).cmd = { s.cmd with running := none, result := .ok } := rfl
@[simp] theorem State.completeLong_irq :
    (s.completeLong).irq = { s.irq with status := s.irq.status ||| Event.cmdDone.mask } := rfl
@[simp] theorem State.completeLong_host : (s.completeLong).host = s.host := rfl
@[simp] theorem State.completeLong_pending : (s.completeLong).pending = s.pending := rfl

/-! ### refuseCommand -/

@[simp] theorem State.refuseCommand_inReset : (s.refuseCommand).inReset = s.inReset := rfl
@[simp] theorem State.refuseCommand_time : (s.refuseCommand).time = s.time := rfl
@[simp] theorem State.refuseCommand_pool : (s.refuseCommand).pool = s.pool := rfl
@[simp] theorem State.refuseCommand_rxf : (s.refuseCommand).rxf = s.rxf := rfl
@[simp] theorem State.refuseCommand_channels : (s.refuseCommand).channels = s.channels := rfl
@[simp] theorem State.refuseCommand_txSequence : (s.refuseCommand).txSequence = s.txSequence := rfl
@[simp] theorem State.refuseCommand_rxq : (s.refuseCommand).rxq = s.rxq := rfl
@[simp] theorem State.refuseCommand_window : (s.refuseCommand).window = s.window := rfl
@[simp] theorem State.refuseCommand_staging : (s.refuseCommand).staging = s.staging := rfl
@[simp] theorem State.refuseCommand_txq : (s.refuseCommand).txq = s.txq := rfl
@[simp] theorem State.refuseCommand_txf : (s.refuseCommand).txf = s.txf := rfl
@[simp] theorem State.refuseCommand_reports : (s.refuseCommand).reports = s.reports := rfl
@[simp] theorem State.refuseCommand_cmd : (s.refuseCommand).cmd = { s.cmd with refused := true } := rfl
@[simp] theorem State.refuseCommand_irq :
    (s.refuseCommand).irq = { s.irq with status := s.irq.status ||| Event.cmdRefused.mask } := rfl
@[simp] theorem State.refuseCommand_host : (s.refuseCommand).host = s.host := rfl
@[simp] theorem State.refuseCommand_pending : (s.refuseCommand).pending = s.pending := rfl

/-! ### closeWindow -/

@[simp] theorem State.closeWindow_inReset : (s.closeWindow).inReset = s.inReset := rfl
@[simp] theorem State.closeWindow_time : (s.closeWindow).time = s.time := rfl
@[simp] theorem State.closeWindow_pool : (s.closeWindow).pool = s.pool := rfl
@[simp] theorem State.closeWindow_rxf : (s.closeWindow).rxf = s.rxf := rfl
@[simp] theorem State.closeWindow_channels : (s.closeWindow).channels = s.channels := rfl
@[simp] theorem State.closeWindow_txSequence : (s.closeWindow).txSequence = s.txSequence := rfl
@[simp] theorem State.closeWindow_rxq : (s.closeWindow).rxq = s.rxq := rfl
@[simp] theorem State.closeWindow_window : (s.closeWindow).window = { s.window with record := none } := rfl
@[simp] theorem State.closeWindow_staging : (s.closeWindow).staging = s.staging := rfl
@[simp] theorem State.closeWindow_txq : (s.closeWindow).txq = s.txq := rfl
@[simp] theorem State.closeWindow_txf : (s.closeWindow).txf = s.txf := rfl
@[simp] theorem State.closeWindow_reports : (s.closeWindow).reports = s.reports := rfl
@[simp] theorem State.closeWindow_cmd : (s.closeWindow).cmd = s.cmd := rfl
@[simp] theorem State.closeWindow_irq : (s.closeWindow).irq = s.irq := rfl
@[simp] theorem State.closeWindow_host : (s.closeWindow).host = s.host := rfl
@[simp] theorem State.closeWindow_pending : (s.closeWindow).pending = s.pending := rfl

/-! ### closeStaging -/

@[simp] theorem State.closeStaging_inReset : (s.closeStaging).inReset = s.inReset := rfl
@[simp] theorem State.closeStaging_time : (s.closeStaging).time = s.time := rfl
@[simp] theorem State.closeStaging_pool : (s.closeStaging).pool = s.pool := rfl
@[simp] theorem State.closeStaging_rxf : (s.closeStaging).rxf = s.rxf := rfl
@[simp] theorem State.closeStaging_channels : (s.closeStaging).channels = s.channels := rfl
@[simp] theorem State.closeStaging_txSequence : (s.closeStaging).txSequence = s.txSequence := rfl
@[simp] theorem State.closeStaging_rxq : (s.closeStaging).rxq = s.rxq := rfl
@[simp] theorem State.closeStaging_window : (s.closeStaging).window = s.window := rfl
@[simp] theorem State.closeStaging_staging : (s.closeStaging).staging = { s.staging with record := none } := rfl
@[simp] theorem State.closeStaging_txq : (s.closeStaging).txq = s.txq := rfl
@[simp] theorem State.closeStaging_txf : (s.closeStaging).txf = s.txf := rfl
@[simp] theorem State.closeStaging_reports : (s.closeStaging).reports = s.reports := rfl
@[simp] theorem State.closeStaging_cmd : (s.closeStaging).cmd = s.cmd := rfl
@[simp] theorem State.closeStaging_irq : (s.closeStaging).irq = s.irq := rfl
@[simp] theorem State.closeStaging_host : (s.closeStaging).host = s.host := rfl
@[simp] theorem State.closeStaging_pending : (s.closeStaging).pending = s.pending := rfl

/-! ### countUnrouted -/

@[simp] theorem State.countUnrouted_inReset : (s.countUnrouted).inReset = s.inReset := rfl
@[simp] theorem State.countUnrouted_time : (s.countUnrouted).time = s.time := rfl
@[simp] theorem State.countUnrouted_pool : (s.countUnrouted).pool = s.pool := rfl
@[simp] theorem State.countUnrouted_rxf :
    (s.countUnrouted).rxf = { s.rxf with unrouted := satInc s.rxf.unrouted } := rfl
@[simp] theorem State.countUnrouted_channels : (s.countUnrouted).channels = s.channels := rfl
@[simp] theorem State.countUnrouted_txSequence : (s.countUnrouted).txSequence = s.txSequence := rfl
@[simp] theorem State.countUnrouted_rxq : (s.countUnrouted).rxq = s.rxq := rfl
@[simp] theorem State.countUnrouted_window : (s.countUnrouted).window = s.window := rfl
@[simp] theorem State.countUnrouted_staging : (s.countUnrouted).staging = s.staging := rfl
@[simp] theorem State.countUnrouted_txq : (s.countUnrouted).txq = s.txq := rfl
@[simp] theorem State.countUnrouted_txf : (s.countUnrouted).txf = s.txf := rfl
@[simp] theorem State.countUnrouted_reports : (s.countUnrouted).reports = s.reports := rfl
@[simp] theorem State.countUnrouted_cmd : (s.countUnrouted).cmd = s.cmd := rfl
@[simp] theorem State.countUnrouted_irq : (s.countUnrouted).irq = s.irq := rfl
@[simp] theorem State.countUnrouted_host : (s.countUnrouted).host = s.host := rfl
@[simp] theorem State.countUnrouted_pending : (s.countUnrouted).pending = s.pending := rfl

/-! ### headerError -/

@[simp] theorem State.headerError_inReset (f : RxFramerState) : (s.headerError f).inReset = s.inReset := rfl
@[simp] theorem State.headerError_time (f : RxFramerState) : (s.headerError f).time = s.time := rfl
@[simp] theorem State.headerError_pool (f : RxFramerState) : (s.headerError f).pool = s.pool := rfl
@[simp] theorem State.headerError_rxf (f : RxFramerState) :
    (s.headerError f).rxf = { s.rxf with headerErrors := satInc s.rxf.headerErrors, state := f } := rfl
@[simp] theorem State.headerError_channels (f : RxFramerState) : (s.headerError f).channels = s.channels := rfl
@[simp] theorem State.headerError_txSequence (f : RxFramerState) : (s.headerError f).txSequence = s.txSequence := rfl
@[simp] theorem State.headerError_rxq (f : RxFramerState) : (s.headerError f).rxq = s.rxq := rfl
@[simp] theorem State.headerError_window (f : RxFramerState) : (s.headerError f).window = s.window := rfl
@[simp] theorem State.headerError_staging (f : RxFramerState) : (s.headerError f).staging = s.staging := rfl
@[simp] theorem State.headerError_txq (f : RxFramerState) : (s.headerError f).txq = s.txq := rfl
@[simp] theorem State.headerError_txf (f : RxFramerState) : (s.headerError f).txf = s.txf := rfl
@[simp] theorem State.headerError_reports (f : RxFramerState) : (s.headerError f).reports = s.reports := rfl
@[simp] theorem State.headerError_cmd (f : RxFramerState) : (s.headerError f).cmd = s.cmd := rfl
@[simp] theorem State.headerError_irq (f : RxFramerState) :
    (s.headerError f).irq = { s.irq with status := s.irq.status ||| Event.hdrError.mask } := rfl
@[simp] theorem State.headerError_host (f : RxFramerState) : (s.headerError f).host = s.host := rfl
@[simp] theorem State.headerError_pending (f : RxFramerState) : (s.headerError f).pending = s.pending := rfl

/-! ### Reading a table or a queue after a write to it -/

@[simp] theorem State.channel_setChannel (c d : ChannelId) (e : ChannelEntry) :
    (s.setChannel c e).channel d = if d = c then e else s.channel d := by
  simp [State.channel, State.setChannel, Vector.getElem_set, Fin.ext_iff, eq_comm]

@[simp] theorem State.txSequenceOf_setTxSequence (c d : ChannelId) (v : BitVec 4) :
    (s.setTxSequence c v).txSequenceOf d = if d = c then v else s.txSequenceOf d := by
  simp [State.txSequenceOf, State.setTxSequence, Vector.getElem_set, Fin.ext_iff, eq_comm]

@[simp] theorem State.rxQueue_setRxQueue (q u : RxQueueId) (r : RxQueue) :
    (s.setRxQueue q r).rxQueue u = if u = q then r else s.rxQueue u := by
  simp [State.rxQueue, State.setRxQueue, Vector.getElem_set, Fin.ext_iff, eq_comm]

@[simp] theorem State.txQueue_setTxQueue (t u : TxQueueId) (x : TxQueue) :
    (s.setTxQueue t x).txQueue u = if u = t then x else s.txQueue u := by
  simp [State.txQueue, State.setTxQueue, Vector.getElem_set, Fin.ext_iff, eq_comm]

/-- A read of a receive queue looks at `rxq` alone. -/
theorem State.rxQueue_congr {s t : State} (h : s.rxq = t.rxq) (q : RxQueueId) : s.rxQueue q = t.rxQueue q := by
  simp only [State.rxQueue, h]

/-- A read of a transmit queue looks at `txq` alone. -/
theorem State.txQueue_congr {s t : State} (h : s.txq = t.txq) (u : TxQueueId) : s.txQueue u = t.txQueue u := by
  simp only [State.txQueue, h]

/-- A read of a channel entry looks at `channels` alone. -/
theorem State.channel_congr {s t : State} (h : s.channels = t.channels) (c : ChannelId) :
    s.channel c = t.channel c := by
  simp only [State.channel, h]

/-! ### Reset -/

@[simp] theorem State.hardwareReset_rxQueue (held : Bool) (l : List Instr) (q : RxQueueId) :
    (State.hardwareReset held l).rxQueue q = RxQueue.reset := by
  simp [State.rxQueue, State.hardwareReset]

@[simp] theorem State.hardwareReset_txQueue (held : Bool) (l : List Instr) (t : TxQueueId) :
    (State.hardwareReset held l).txQueue t = TxQueue.reset := by
  simp [State.txQueue, State.hardwareReset]

@[simp] theorem State.hardwareReset_channel (held : Bool) (l : List Instr) (c : ChannelId) :
    (State.hardwareReset held l).channel c = ChannelEntry.reset := by
  simp [State.channel, State.hardwareReset]

@[simp] theorem State.hardwareReset_txSequenceOf (held : Bool) (l : List Instr) (c : ChannelId) :
    (State.hardwareReset held l).txSequenceOf c = 0 := by
  simp [State.txSequenceOf, State.hardwareReset]

end Sys2Proof.Machine
end

