-- ==== Sys2Proof/Laws/Operands.lean ====
section
/-! SUPPORT. What the operand readers accept: each in the form of the range it checks. -/

namespace Sys2Proof.Machine

/-- A receive queue is read from the word that equals it (R178). -/
theorem rxQueueArg_eq_some {w : Word} {q : RxQueueId} : rxQueueArg w = some q ↔ w.toNat = q.val := by
  unfold rxQueueArg
  split
  · simp [Fin.ext_iff]
  · simp only [reduceCtorEq, false_iff]; omega

/-- No receive queue above 15. -/
theorem rxQueueArg_eq_none {w : Word} : rxQueueArg w = none ↔ 15 < w.toNat := by
  unfold rxQueueArg; split <;> simp <;> omega

/-- A transmit queue is read from the word that equals it (R178). -/
theorem txQueueArg_eq_some {w : Word} {t : TxQueueId} : txQueueArg w = some t ↔ w.toNat = t.val := by
  unfold txQueueArg
  split
  · simp [Fin.ext_iff]
  · simp only [reduceCtorEq, false_iff]; omega

/-- No transmit queue above 3. -/
theorem txQueueArg_eq_none {w : Word} : txQueueArg w = none ↔ 3 < w.toNat := by
  unfold txQueueArg; split <;> simp <;> omega

/-- A channel is read from the word that equals it (R178). -/
theorem channelArg_eq_some {w : Word} {c : ChannelId} : channelArg w = some c ↔ w.toNat = c.val := by
  unfold channelArg
  split
  · simp [Fin.ext_iff]
  · simp only [reduceCtorEq, false_iff]; omega

/-- No channel above 63. -/
theorem channelArg_eq_none {w : Word} : channelArg w = none ↔ 63 < w.toNat := by
  unfold channelArg; split <;> simp <;> omega

/-- A choice other than 0 and 1 is out of range. -/
theorem choiceArg_eq_none {w : Word} : choiceArg w = none ↔ 1 < w.toNat := by
  unfold choiceArg
  split
  · simp_all
  · split
    · simp_all
    · simp only [true_iff]; bv_omega

/-- A number in its range is read as it stands (R178). -/
theorem numberArg_eq_some {lo hi n : Nat} {w : Word} :
    numberArg lo hi w = some n ↔ w.toNat = n ∧ lo ≤ n ∧ n ≤ hi := by
  unfold numberArg
  split
  · simp only [Option.some.injEq]; omega
  · simp only [reduceCtorEq, false_iff]; omega

/-- A number out of its range is refused. -/
theorem numberArg_eq_none {lo hi : Nat} {w : Word} : numberArg lo hi w = none ↔ w.toNat < lo ∨ hi < w.toNat := by
  unfold numberArg; split <;> simp <;> omega

/-- A time in three words is read when its fine part is at most 4095 (R73, R112). -/
theorem timeArg_of_le {hi lo fine : Word} (h : fine.toNat ≤ 4095) :
    timeArg hi lo fine = some ⟨hi ++ lo, fine.setWidth 12⟩ := by
  simp [timeArg, coarseArg, h]

/-- A time whose fine part is above 4095 is refused (R73, R112). -/
theorem timeArg_of_gt {hi lo fine : Word} (h : 4095 < fine.toNat) : timeArg hi lo fine = none := by
  simp [timeArg]; omega

end Sys2Proof.Machine
end

