-- ==== Sys2Proof/Laws/Ops.lean ====
section
/-! SUPPORT. What each shared operation can do, said once: the fields it leaves alone, and what it makes of the
others. -/

namespace Sys2Proof.Machine

variable (s : State)

/-! ### Events and counters -/

/-- Raising an event under a condition touches only the event status. -/
@[simp] theorem State.raiseIf_frame (c : Bool) (e : Event) :
    (s.raiseIf c e).inReset = s.inReset ∧ (s.raiseIf c e).time = s.time ∧ (s.raiseIf c e).pool = s.pool ∧
    (s.raiseIf c e).rxf = s.rxf ∧ (s.raiseIf c e).channels = s.channels ∧
    (s.raiseIf c e).txSequence = s.txSequence ∧ (s.raiseIf c e).rxq = s.rxq ∧ (s.raiseIf c e).window = s.window ∧
    (s.raiseIf c e).staging = s.staging ∧ (s.raiseIf c e).txq = s.txq ∧ (s.raiseIf c e).txf = s.txf ∧
    (s.raiseIf c e).reports = s.reports ∧ (s.raiseIf c e).cmd = s.cmd ∧ (s.raiseIf c e).host = s.host ∧
    (s.raiseIf c e).pending = s.pending := by
  unfold State.raiseIf; split <;> simp

/-- The event status after raising an event under a condition. -/
@[simp] theorem State.raiseIf_irq (c : Bool) (e : Event) :
    (s.raiseIf c e).irq = { s.irq with status := if c then s.irq.status ||| e.mask else s.irq.status } := by
  unfold State.raiseIf; split <;> simp_all

/-- Cells for at most 255 bytes are at most 4. -/
theorem cellsFor_le {n : Nat} (h : n ≤ 255) : cellsFor n ≤ 4 := by
  simp only [cellsFor, Config.cellBytes]; omega

/-- Fewer bytes never need more cells. -/
theorem cellsFor_mono {m n : Nat} (h : m ≤ n) : cellsFor m ≤ cellsFor n := by
  simp only [cellsFor, Config.cellBytes]; omega

/-! ### The pool -/

/-- A grant touches the pool and the event status. -/
@[simp] theorem State.takeReservation_frame (n : Nat) :
    (s.takeReservation n).inReset = s.inReset ∧ (s.takeReservation n).time = s.time ∧
    (s.takeReservation n).rxf = s.rxf ∧ (s.takeReservation n).channels = s.channels ∧
    (s.takeReservation n).txSequence = s.txSequence ∧ (s.takeReservation n).rxq = s.rxq ∧
    (s.takeReservation n).window = s.window ∧ (s.takeReservation n).staging = s.staging ∧
    (s.takeReservation n).txq = s.txq ∧ (s.takeReservation n).txf = s.txf ∧
    (s.takeReservation n).reports = s.reports ∧ (s.takeReservation n).cmd = s.cmd ∧
    (s.takeReservation n).host = s.host ∧ (s.takeReservation n).pending = s.pending := by
  simp [State.takeReservation]

/-- The pool after a grant (R21, R24). -/
@[simp] theorem State.takeReservation_pool (n : Nat) :
    (s.takeReservation n).pool =
      { s.pool with freeCells := s.pool.freeCells - n, freeDescs := s.pool.freeDescs - 1 } := by
  simp [State.takeReservation]

/-- What a granted receive reservation found (R20). -/
theorem rxReservationRefusal_none {p : Pool} {n quota cells : Nat} :
    rxReservationRefusal p n quota cells = none ↔
      p.descReserve + 1 ≤ p.freeDescs ∧ (cells = 0 ∨ n + cells ≤ quota) ∧
        (cells = 0 ∨ p.cellReserve + cells ≤ p.freeCells) := by
  unfold rxReservationRefusal
  split
  · simp only [reduceCtorEq, false_iff]; omega
  · split
    · simp only [reduceCtorEq, false_iff]; omega
    · split
      · simp only [reduceCtorEq, false_iff]; omega
      · simp only [true_iff]; omega

/-! ### Reports -/

/-- A report handed over touches the report queue and the event status. -/
@[simp] theorem State.appendReport_frame (r : Report) :
    (s.appendReport r).inReset = s.inReset ∧ (s.appendReport r).time = s.time ∧
    (s.appendReport r).pool = s.pool ∧ (s.appendReport r).rxf = s.rxf ∧
    (s.appendReport r).channels = s.channels ∧ (s.appendReport r).txSequence = s.txSequence ∧
    (s.appendReport r).rxq = s.rxq ∧ (s.appendReport r).window = s.window ∧
    (s.appendReport r).staging = s.staging ∧ (s.appendReport r).txq = s.txq ∧ (s.appendReport r).txf = s.txf ∧
    (s.appendReport r).cmd = s.cmd ∧ (s.appendReport r).host = s.host ∧
    (s.appendReport r).pending = s.pending := by
  unfold State.appendReport; split <;> simp

/-- The report list after a report is handed over (R150, R151). -/
theorem State.appendReport_list (r : Report) :
    (s.appendReport r).reports.list =
      if s.reports.list.length < 32 then s.reports.list ++ [r] else s.reports.list := by
  unfold State.appendReport Config.reportPlaces; split <;> simp

/-! ### Entries that leave a transmit queue -/

/-- Removing an entry touches its queue and the pool. -/
@[simp] theorem State.removeEntry_frame (t : TxQueueId) (n : Nat) :
    (s.removeEntry t n).inReset = s.inReset ∧ (s.removeEntry t n).time = s.time ∧
    (s.removeEntry t n).rxf = s.rxf ∧ (s.removeEntry t n).channels = s.channels ∧
    (s.removeEntry t n).txSequence = s.txSequence ∧ (s.removeEntry t n).rxq = s.rxq ∧
    (s.removeEntry t n).window = s.window ∧ (s.removeEntry t n).staging = s.staging ∧
    (s.removeEntry t n).txf = s.txf ∧ (s.removeEntry t n).reports = s.reports ∧
    (s.removeEntry t n).cmd = s.cmd ∧ (s.removeEntry t n).irq = s.irq ∧
    (s.removeEntry t n).host = s.host ∧ (s.removeEntry t n).pending = s.pending := by
  unfold State.removeEntry; split <;> simp

/-- The transmit queues after removing an entry. -/
theorem State.removeEntry_txQueue (t u : TxQueueId) (n : Nat) :
    (s.removeEntry t n).txQueue u =
      if u = t then { s.txQueue t with entries := (s.txQueue t).entries.eraseIdx n } else s.txQueue u := by
  unfold State.removeEntry
  split
  · rename_i h
    rw [List.eraseIdx_of_length_le (by simpa using h)]
    split <;> simp_all
  · rw [State.txQueue_congr (State.returnHolder_txq _ _)]
    simp

/-- An entry leaving with a report touches its queue, the pool, the report queue and the event status. -/
@[simp] theorem State.leaveWithReport_frame (t : TxQueueId) (n : Nat) (r : ReportResult) :
    (s.leaveWithReport t n r).inReset = s.inReset ∧ (s.leaveWithReport t n r).time = s.time ∧
    (s.leaveWithReport t n r).rxf = s.rxf ∧ (s.leaveWithReport t n r).channels = s.channels ∧
    (s.leaveWithReport t n r).txSequence = s.txSequence ∧ (s.leaveWithReport t n r).rxq = s.rxq ∧
    (s.leaveWithReport t n r).window = s.window ∧ (s.leaveWithReport t n r).staging = s.staging ∧
    (s.leaveWithReport t n r).txf = s.txf ∧ (s.leaveWithReport t n r).cmd = s.cmd ∧
    (s.leaveWithReport t n r).host = s.host ∧ (s.leaveWithReport t n r).pending = s.pending := by
  unfold State.leaveWithReport; split <;> simp

/-- The transmit queues after an entry leaves with a report. -/
theorem State.leaveWithReport_txQueue (t u : TxQueueId) (n : Nat) (r : ReportResult) :
    (s.leaveWithReport t n r).txQueue u =
      if u = t then { s.txQueue t with entries := (s.txQueue t).entries.eraseIdx n } else s.txQueue u := by
  unfold State.leaveWithReport
  split
  · rename_i h
    rw [List.eraseIdx_of_length_le (by simpa using h)]
    split <;> simp_all
  · rw [State.removeEntry_txQueue]
    simp only [State.txQueue_congr (State.appendReport_frame s _).2.2.2.2.2.2.2.2.2.1]

/-- A finish touches what a leaving touches, and the framer's state (R145). -/
@[simp] theorem State.finishEntry_frame (t : TxQueueId) (r : ReportResult) :
    (s.finishEntry t r).inReset = s.inReset ∧ (s.finishEntry t r).time = s.time ∧
    (s.finishEntry t r).rxf = s.rxf ∧ (s.finishEntry t r).channels = s.channels ∧
    (s.finishEntry t r).txSequence = s.txSequence ∧ (s.finishEntry t r).rxq = s.rxq ∧
    (s.finishEntry t r).window = s.window ∧ (s.finishEntry t r).staging = s.staging ∧
    (s.finishEntry t r).txf = { s.txf with state := .idle } ∧ (s.finishEntry t r).cmd = s.cmd ∧
    (s.finishEntry t r).host = s.host ∧ (s.finishEntry t r).pending = s.pending := by
  simp [State.finishEntry]

/-- The transmit queues after a finish. -/
theorem State.finishEntry_txQueue (t u : TxQueueId) (r : ReportResult) :
    (s.finishEntry t r).txQueue u =
      if u = t then { s.txQueue t with entries := (s.txQueue t).entries.eraseIdx 0 } else s.txQueue u := by
  rw [← State.leaveWithReport_txQueue s t u 0 r]; rfl

/-! ### Selection -/

/-- What a selection found (R132). -/
theorem State.selects_some {t : TxQueueId} (h : s.selects = some t) :
    s.txf.state = .idle ∧ s.txf.lineTx = true ∧ s.softResetting = false ∧ s.candidate = some t := by
  unfold State.selects at h
  split at h
  · rename_i hc; exact ⟨hc.1, hc.2.1, hc.2.2, h⟩
  · cases h

/-- A selected entry enters WAITING_LINE, or is dropped at once, or (in no reachable state) there is none. -/
theorem State.enterWaiting_cases (t : TxQueueId) :
    s.enterWaiting t = s.setTxFramer .idle ∨ s.enterWaiting t = s.finishEntry t .lateDropped ∨
      ∃ e rest armed, (s.txQueue t).entries = e :: rest ∧ s.enterWaiting t = s.setTxFramer (.waitingLine t armed false) := by
  unfold State.enterWaiting
  split
  · exact .inl rfl
  · rename_i e rest h
    dsimp only
    split
    · exact .inr (.inl rfl)
    · exact .inr (.inr ⟨e, rest, _, h, rfl⟩)

/-- Entering WAITING_LINE leaves everything but the transmit side alone. -/
@[simp] theorem State.enterWaiting_frame (t : TxQueueId) :
    (s.enterWaiting t).inReset = s.inReset ∧ (s.enterWaiting t).time = s.time ∧ (s.enterWaiting t).rxf = s.rxf ∧
    (s.enterWaiting t).channels = s.channels ∧ (s.enterWaiting t).txSequence = s.txSequence ∧
    (s.enterWaiting t).rxq = s.rxq ∧ (s.enterWaiting t).window = s.window ∧
    (s.enterWaiting t).staging = s.staging ∧ (s.enterWaiting t).cmd = s.cmd ∧ (s.enterWaiting t).host = s.host ∧
    (s.enterWaiting t).pending = s.pending ∧ (s.enterWaiting t).txf.lineTx = s.txf.lineTx := by
  obtain h | h | ⟨_, _, _, _, h⟩ := s.enterWaiting_cases t <;> simp [h]

/-- What every entry into WAITING_LINE of a selected head keeps, the selections of one change keep. -/
theorem selectLoop_preserves {P : State → Prop} (h : ∀ s t, s.selects = some t → P s → P (s.enterWaiting t)) :
    ∀ n s, P s → P (selectLoop n s) := by
  intro n
  induction n with
  | zero => exact fun s hs => hs
  | succ n ih =>
    intro s hs
    unfold selectLoop
    split
    · exact hs
    · rename_i t ht; exact ih _ (h s t ht hs)

/-- The same for the whole selection. -/
theorem State.select_preserves {P : State → Prop} (h : ∀ s t, s.selects = some t → P s → P (s.enterWaiting t))
    (hs : P s) : P s.select := selectLoop_preserves h _ s hs

/-- A state in which nothing can be selected is left as it is. -/
theorem State.select_of_none (h : s.selects = none) : s.select = s := by
  unfold State.select
  cases s.entryTotal <;> simp [selectLoop, h]

/-- Nothing is selected while the framer is not IDLE (R132). -/
theorem State.selects_of_busy (h : s.txf.state ≠ .idle) : s.selects = none := by
  simp [State.selects, h]

/-- Nothing is selected while LINE_TX is off (R132). -/
theorem State.selects_of_off (h : s.txf.lineTx = false) : s.selects = none := by
  simp [State.selects, h]

/-- Selection leaves everything but the transmit side alone. -/
@[simp] theorem State.select_frame :
    s.select.inReset = s.inReset ∧ s.select.time = s.time ∧ s.select.rxf = s.rxf ∧
    s.select.channels = s.channels ∧ s.select.txSequence = s.txSequence ∧ s.select.rxq = s.rxq ∧
    s.select.window = s.window ∧ s.select.staging = s.staging ∧ s.select.cmd = s.cmd ∧ s.select.host = s.host ∧
    s.select.pending = s.pending ∧ s.select.txf.lineTx = s.txf.lineTx := by
  refine s.select_preserves (P := fun u => u.inReset = s.inReset ∧ u.time = s.time ∧ u.rxf = s.rxf ∧
    u.channels = s.channels ∧ u.txSequence = s.txSequence ∧ u.rxq = s.rxq ∧ u.window = s.window ∧
    u.staging = s.staging ∧ u.cmd = s.cmd ∧ u.host = s.host ∧ u.pending = s.pending ∧
    u.txf.lineTx = s.txf.lineTx) ?_ ?_
  · intro u t _ hu; simpa using hu
  · simp

/-! ### Completion of long commands -/

/-- The completion of TX_FLUSH touches the flag of its queue, the command unit and the event status. -/
@[simp] theorem State.completeTxFlush_frame :
    s.completeTxFlush.inReset = s.inReset ∧ s.completeTxFlush.time = s.time ∧ s.completeTxFlush.pool = s.pool ∧
    s.completeTxFlush.rxf = s.rxf ∧ s.completeTxFlush.channels = s.channels ∧
    s.completeTxFlush.txSequence = s.txSequence ∧ s.completeTxFlush.rxq = s.rxq ∧
    s.completeTxFlush.window = s.window ∧ s.completeTxFlush.staging = s.staging ∧
    s.completeTxFlush.txf = s.txf ∧ s.completeTxFlush.reports = s.reports ∧ s.completeTxFlush.host = s.host ∧
    s.completeTxFlush.pending = s.pending := by
  unfold State.completeTxFlush
  split
  · split <;> simp
  · simp

/-- Without a running TX_FLUSH nothing completes. -/
theorem State.completeTxFlush_of_idle (h : ∀ t, s.cmd.running ≠ some (.txFlush t)) : s.completeTxFlush = s := by
  unfold State.completeTxFlush
  split
  · rename_i t ht; exact absurd ht (h t)
  · rfl

/-- The event that follows a change of the transmit side leaves everything but that side, the command unit and the
event status alone. -/
@[simp] theorem State.afterTransmit_frame :
    s.afterTransmit.inReset = s.inReset ∧ s.afterTransmit.time = s.time ∧ s.afterTransmit.rxf = s.rxf ∧
    s.afterTransmit.channels = s.channels ∧ s.afterTransmit.txSequence = s.txSequence ∧
    s.afterTransmit.rxq = s.rxq ∧ s.afterTransmit.window = s.window ∧ s.afterTransmit.staging = s.staging ∧
    s.afterTransmit.host = s.host ∧ s.afterTransmit.pending = s.pending ∧
    s.afterTransmit.txf.lineTx = s.txf.lineTx := by
  simp [State.afterTransmit]

/-- With no TX_FLUSH running and nothing to select, nothing follows. -/
theorem State.afterTransmit_of_quiet (hr : ∀ t, s.cmd.running ≠ some (.txFlush t)) (hs : s.selects = none) :
    s.afterTransmit = s := by
  rw [State.afterTransmit, s.completeTxFlush_of_idle hr, s.select_of_none hs]

/-- The completion of SOFT_RESET touches the command unit and the event status. -/
@[simp] theorem State.completeSoftReset_frame :
    s.completeSoftReset.inReset = s.inReset ∧ s.completeSoftReset.time = s.time ∧
    s.completeSoftReset.pool = s.pool ∧ s.completeSoftReset.rxf = s.rxf ∧
    s.completeSoftReset.channels = s.channels ∧ s.completeSoftReset.txSequence = s.txSequence ∧
    s.completeSoftReset.rxq = s.rxq ∧ s.completeSoftReset.window = s.window ∧
    s.completeSoftReset.staging = s.staging ∧ s.completeSoftReset.txq = s.txq ∧
    s.completeSoftReset.txf = s.txf ∧ s.completeSoftReset.reports = s.reports ∧
    s.completeSoftReset.host = s.host ∧ s.completeSoftReset.pending = s.pending := by
  unfold State.completeSoftReset; split <;> simp

/-! ### The command unit -/

/-- A command while RESET_N is asserted changes nothing (R174). -/
theorem shortCommand_held (code : Word) (owner : Operands → State → State × Result) (h : s.inReset = true) :
    shortCommand code owner s = s := by
  simp [shortCommand, State.unlessReset, h]

/-- A short command while the unit is BUSY is refused (R159). -/
theorem shortCommand_busy (code : Word) (owner : Operands → State → State × Result) (h : s.inReset = false)
    (l : LongCommand) (hb : s.cmd.running = some l) : shortCommand code owner s = s.refuseCommand := by
  simp [shortCommand, State.unlessReset, h, State.busy, hb]

/-- A short command taken in IDLE: the owner acts on the accepted state, and the command completes (R156, R157). -/
theorem shortCommand_taken (code : Word) (owner : Operands → State → State × Result) (h : s.takesCommands) :
    shortCommand code owner s =
      (owner s.cmd.operands (s.acceptCommand code)).1.completeCommand
        (owner s.cmd.operands (s.acceptCommand code)).2 := by
  simp [shortCommand, State.unlessReset, h.1, State.busy, h.2]

/-- Completing an accepted state that nothing else changed (R157). -/
theorem State.complete_accept (code : Word) (r : Result) :
    (s.acceptCommand code).completeCommand r = s.doneWith code r := rfl

/-! ### Removals of receive records, the window and staging -/

/-- Removing a head record touches its queue and the pool. -/
@[simp] theorem State.removeHeadRecord_frame (q : RxQueueId) :
    (s.removeHeadRecord q).inReset = s.inReset ∧ (s.removeHeadRecord q).time = s.time ∧
    (s.removeHeadRecord q).rxf = s.rxf ∧ (s.removeHeadRecord q).channels = s.channels ∧
    (s.removeHeadRecord q).txSequence = s.txSequence ∧ (s.removeHeadRecord q).window = s.window ∧
    (s.removeHeadRecord q).staging = s.staging ∧ (s.removeHeadRecord q).txq = s.txq ∧
    (s.removeHeadRecord q).txf = s.txf ∧ (s.removeHeadRecord q).reports = s.reports ∧
    (s.removeHeadRecord q).cmd = s.cmd ∧ (s.removeHeadRecord q).irq = s.irq ∧
    (s.removeHeadRecord q).host = s.host ∧ (s.removeHeadRecord q).pending = s.pending := by
  unfold State.removeHeadRecord; split <;> simp

/-- The receive queues after removing a head record. -/
theorem State.removeHeadRecord_rxQueue (q u : RxQueueId) :
    (s.removeHeadRecord q).rxQueue u =
      if u = q then { s.rxQueue q with records := (s.rxQueue q).records.tail } else s.rxQueue u := by
  unfold State.removeHeadRecord
  split
  · rename_i h
    have hq : { s.rxQueue q with records := (s.rxQueue q).records.tail } = s.rxQueue q := by
      cases hr : s.rxQueue q; simp_all
    rw [hq]; split <;> simp_all
  · rename_i r rest h
    rw [State.rxQueue_congr (State.returnHolder_rxq _ _)]
    simp [h]

/-- The completion of RX_FLUSH touches the flag of its queue, the command unit and the event status. -/
@[simp] theorem State.completeRxFlush_frame (q : RxQueueId) :
    (s.completeRxFlush q).inReset = s.inReset ∧ (s.completeRxFlush q).time = s.time ∧
    (s.completeRxFlush q).pool = s.pool ∧ (s.completeRxFlush q).rxf = s.rxf ∧
    (s.completeRxFlush q).channels = s.channels ∧ (s.completeRxFlush q).txSequence = s.txSequence ∧
    (s.completeRxFlush q).window = s.window ∧ (s.completeRxFlush q).staging = s.staging ∧
    (s.completeRxFlush q).txq = s.txq ∧ (s.completeRxFlush q).txf = s.txf ∧
    (s.completeRxFlush q).reports = s.reports ∧ (s.completeRxFlush q).host = s.host ∧
    (s.completeRxFlush q).pending = s.pending := by
  unfold State.completeRxFlush; split <;> simp

/-- Withdrawing an entry leaves everything but the transmit side, the pool, the reports and the event status
alone. -/
@[simp] theorem State.withdrawEntry_frame (t : TxQueueId) (n : Nat) (r : ReportResult) :
    (s.withdrawEntry t n r).inReset = s.inReset ∧ (s.withdrawEntry t n r).time = s.time ∧
    (s.withdrawEntry t n r).rxf = s.rxf ∧ (s.withdrawEntry t n r).channels = s.channels ∧
    (s.withdrawEntry t n r).txSequence = s.txSequence ∧ (s.withdrawEntry t n r).rxq = s.rxq ∧
    (s.withdrawEntry t n r).window = s.window ∧ (s.withdrawEntry t n r).staging = s.staging ∧
    (s.withdrawEntry t n r).cmd = s.cmd ∧ (s.withdrawEntry t n r).host = s.host ∧
    (s.withdrawEntry t n r).pending = s.pending ∧ (s.withdrawEntry t n r).txf.lineTx = s.txf.lineTx := by
  unfold State.withdrawEntry; dsimp only; split <;> simp

/-- The transmit queues after withdrawing an entry. -/
theorem State.withdrawEntry_txQueue (t u : TxQueueId) (n : Nat) (r : ReportResult) :
    (s.withdrawEntry t n r).txQueue u =
      if u = t then { s.txQueue t with entries := (s.txQueue t).entries.eraseIdx n } else s.txQueue u := by
  rw [← State.leaveWithReport_txQueue s t u n r]
  unfold State.withdrawEntry; dsimp only; split <;> rfl

/-- Abandoning staging touches staging and the pool. -/
@[simp] theorem State.abandonStaging_frame :
    s.abandonStaging.inReset = s.inReset ∧ s.abandonStaging.time = s.time ∧ s.abandonStaging.rxf = s.rxf ∧
    s.abandonStaging.channels = s.channels ∧ s.abandonStaging.txSequence = s.txSequence ∧
    s.abandonStaging.rxq = s.rxq ∧ s.abandonStaging.window = s.window ∧ s.abandonStaging.txq = s.txq ∧
    s.abandonStaging.txf = s.txf ∧ s.abandonStaging.reports = s.reports ∧ s.abandonStaging.cmd = s.cmd ∧
    s.abandonStaging.irq = s.irq ∧ s.abandonStaging.host = s.host ∧ s.abandonStaging.pending = s.pending ∧
    s.abandonStaging.staging.record = none := by
  unfold State.abandonStaging; split <;> simp_all

/-- The return of a filling record touches the pool. -/
@[simp] theorem State.returnFilling_frame :
    s.returnFilling.inReset = s.inReset ∧ s.returnFilling.time = s.time ∧ s.returnFilling.rxf = s.rxf ∧
    s.returnFilling.channels = s.channels ∧ s.returnFilling.txSequence = s.txSequence ∧
    s.returnFilling.rxq = s.rxq ∧ s.returnFilling.window = s.window ∧ s.returnFilling.staging = s.staging ∧
    s.returnFilling.txq = s.txq ∧ s.returnFilling.txf = s.txf ∧ s.returnFilling.reports = s.reports ∧
    s.returnFilling.cmd = s.cmd ∧ s.returnFilling.irq = s.irq ∧ s.returnFilling.host = s.host ∧
    s.returnFilling.pending = s.pending := by
  unfold State.returnFilling; split <;> simp

end Sys2Proof.Machine
end

