-- ==== Sys2Proof/Laws/Receive.lean ====
section
/-! SUPPORT. What the classifier, the receive framer and the changes of link time can do, said once. -/

namespace Sys2Proof.Machine

variable (s : State)

/-! ### The verdict at the header -/

/-- A reservation asked for at a header touches the pool, the queue and the event status. -/
@[simp] theorem State.reserveFor_frame (q : RxQueueId) (h : Header) :
    (s.reserveFor q h).1.inReset = s.inReset ∧ (s.reserveFor q h).1.time = s.time ∧
    (s.reserveFor q h).1.rxf = s.rxf ∧ (s.reserveFor q h).1.channels = s.channels ∧
    (s.reserveFor q h).1.txSequence = s.txSequence ∧ (s.reserveFor q h).1.window = s.window ∧
    (s.reserveFor q h).1.staging = s.staging ∧ (s.reserveFor q h).1.txq = s.txq ∧
    (s.reserveFor q h).1.txf = s.txf ∧ (s.reserveFor q h).1.reports = s.reports ∧
    (s.reserveFor q h).1.cmd = s.cmd ∧ (s.reserveFor q h).1.host = s.host ∧
    (s.reserveFor q h).1.pending = s.pending := by
  unfold State.reserveFor; dsimp only; split <;> simp

/-- A reservation is granted, with what R20 asks for found, or it is a loss on the queue. -/
theorem State.reserveFor_cases (q : RxQueueId) (h : Header) :
    (rxReservationRefusal s.pool (s.rxQueue q).cellCount (s.rxQueue q).config.quota (cellsFor h.length.toNat) = none ∧
      s.reserveFor q h = (s.takeReservation (cellsFor h.length.toNat), .admitted)) ∨
    s.reserveFor q h = (s.setRxQueue q (s.rxQueue q).lose, .loss) := by
  unfold State.reserveFor; dsimp only
  split
  · rename_i h0; exact .inl ⟨h0, rfl⟩
  · exact .inr rfl

/-- The queue's answer touches the pool, the queue and the event status. -/
@[simp] theorem State.admitTo_frame (q : RxQueueId) (h : Header) :
    (s.admitTo q h).1.inReset = s.inReset ∧ (s.admitTo q h).1.time = s.time ∧ (s.admitTo q h).1.rxf = s.rxf ∧
    (s.admitTo q h).1.channels = s.channels ∧ (s.admitTo q h).1.txSequence = s.txSequence ∧
    (s.admitTo q h).1.window = s.window ∧ (s.admitTo q h).1.staging = s.staging ∧
    (s.admitTo q h).1.txq = s.txq ∧ (s.admitTo q h).1.txf = s.txf ∧ (s.admitTo q h).1.reports = s.reports ∧
    (s.admitTo q h).1.cmd = s.cmd ∧ (s.admitTo q h).1.host = s.host ∧
    (s.admitTo q h).1.pending = s.pending := by
  unfold State.admitTo; dsimp only
  split
  · simp
  · split
    · simp
    · simp
    · split <;> simp
    all_goals simp

/-- The verdict at the header touches the pool, the queue, the channel, the unrouted counter and the event status. -/
@[simp] theorem State.classify_frame (h : Header) :
    (s.classify h).1.inReset = s.inReset ∧ (s.classify h).1.time = s.time ∧
    (s.classify h).1.rxf.state = s.rxf.state ∧ (s.classify h).1.rxf.lineRx = s.rxf.lineRx ∧
    (s.classify h).1.txSequence = s.txSequence ∧ (s.classify h).1.window = s.window ∧
    (s.classify h).1.staging = s.staging ∧ (s.classify h).1.txq = s.txq ∧ (s.classify h).1.txf = s.txf ∧
    (s.classify h).1.reports = s.reports ∧ (s.classify h).1.cmd = s.cmd ∧ (s.classify h).1.host = s.host ∧
    (s.classify h).1.pending = s.pending := by
  unfold State.classify; dsimp only
  split
  · simp
  · split <;> simp

/-! ### Settling the end -/

/-- A commit touches the queue and the pool. -/
@[simp] theorem State.commitRecord_frame (q : RxQueueId) (p : BodyPacket) (r : RxRecord) :
    (s.commitRecord q p r).inReset = s.inReset ∧ (s.commitRecord q p r).time = s.time ∧
    (s.commitRecord q p r).rxf = s.rxf ∧ (s.commitRecord q p r).channels = s.channels ∧
    (s.commitRecord q p r).txSequence = s.txSequence ∧ (s.commitRecord q p r).window = s.window ∧
    (s.commitRecord q p r).staging = s.staging ∧ (s.commitRecord q p r).txq = s.txq ∧
    (s.commitRecord q p r).txf = s.txf ∧ (s.commitRecord q p r).reports = s.reports ∧
    (s.commitRecord q p r).cmd = s.cmd ∧ (s.commitRecord q p r).irq = s.irq ∧
    (s.commitRecord q p r).host = s.host ∧ (s.commitRecord q p r).pending = s.pending := by
  unfold State.commitRecord; dsimp only; split <;> simp

/-- The end of a packet with storage touches the queue and the pool. -/
@[simp] theorem State.settleStorage_frame (p : BodyPacket) (f : RecordFlags) (bytes : List Byte) :
    (s.settleStorage p f bytes).inReset = s.inReset ∧ (s.settleStorage p f bytes).time = s.time ∧
    (s.settleStorage p f bytes).rxf = s.rxf ∧ (s.settleStorage p f bytes).channels = s.channels ∧
    (s.settleStorage p f bytes).txSequence = s.txSequence ∧ (s.settleStorage p f bytes).window = s.window ∧
    (s.settleStorage p f bytes).staging = s.staging ∧ (s.settleStorage p f bytes).txq = s.txq ∧
    (s.settleStorage p f bytes).txf = s.txf ∧ (s.settleStorage p f bytes).reports = s.reports ∧
    (s.settleStorage p f bytes).cmd = s.cmd ∧ (s.settleStorage p f bytes).irq = s.irq ∧
    (s.settleStorage p f bytes).host = s.host ∧ (s.settleStorage p f bytes).pending = s.pending := by
  unfold State.settleStorage; dsimp only
  split
  · simp
  · split <;> simp

/-- The update of the last sequence touches the channel table. -/
@[simp] theorem State.settleSequence_frame (p : BodyPacket) (f : RecordFlags) :
    (s.settleSequence p f).inReset = s.inReset ∧ (s.settleSequence p f).time = s.time ∧
    (s.settleSequence p f).pool = s.pool ∧ (s.settleSequence p f).rxf = s.rxf ∧
    (s.settleSequence p f).txSequence = s.txSequence ∧ (s.settleSequence p f).rxq = s.rxq ∧
    (s.settleSequence p f).window = s.window ∧ (s.settleSequence p f).staging = s.staging ∧
    (s.settleSequence p f).txq = s.txq ∧ (s.settleSequence p f).txf = s.txf ∧
    (s.settleSequence p f).reports = s.reports ∧ (s.settleSequence p f).cmd = s.cmd ∧
    (s.settleSequence p f).irq = s.irq ∧ (s.settleSequence p f).host = s.host ∧
    (s.settleSequence p f).pending = s.pending := by
  unfold State.settleSequence; split <;> simp

/-- An appended reference touches the reference list, its overwrite counter and the event status. -/
@[simp] theorem State.appendReference_frame (e : RefEntry) :
    (s.appendReference e).inReset = s.inReset ∧ (s.appendReference e).pool = s.pool ∧
    (s.appendReference e).rxf = s.rxf ∧ (s.appendReference e).channels = s.channels ∧
    (s.appendReference e).txSequence = s.txSequence ∧ (s.appendReference e).rxq = s.rxq ∧
    (s.appendReference e).window = s.window ∧ (s.appendReference e).staging = s.staging ∧
    (s.appendReference e).txq = s.txq ∧ (s.appendReference e).txf = s.txf ∧
    (s.appendReference e).reports = s.reports ∧ (s.appendReference e).cmd = s.cmd ∧
    (s.appendReference e).host = s.host ∧ (s.appendReference e).pending = s.pending ∧
    (s.appendReference e).time.now = s.time.now ∧ (s.appendReference e).time.epoch = s.time.epoch ∧
    (s.appendReference e).time.divisor = s.time.divisor ∧
    (s.appendReference e).time.pendingSet = s.time.pendingSet ∧
    (s.appendReference e).time.pendingDivisor = s.time.pendingDivisor ∧
    (s.appendReference e).time.slew = s.time.slew ∧
    (s.appendReference e).time.firstEdge = s.time.firstEdge := by
  unfold State.appendReference; split <;> simp

/-- The reference list keeps at most 8 entries (R14). -/
theorem State.appendReference_refs_length (e : RefEntry) (h : s.time.refs.length ≤ 8) :
    (s.appendReference e).time.refs.length ≤ 8 := by
  unfold State.appendReference Config.referencePlaces
  split
  · simp; omega
  · simp; omega

/-- The end of a packet leaves what only the transmit side, the window, the command unit and the host port hold. -/
@[simp] theorem State.settleEnd_frame (p : BodyPacket) (early : Bool) :
    (s.settleEnd p early).inReset = s.inReset ∧ (s.settleEnd p early).rxf = s.rxf ∧
    (s.settleEnd p early).txSequence = s.txSequence ∧ (s.settleEnd p early).window = s.window ∧
    (s.settleEnd p early).staging = s.staging ∧ (s.settleEnd p early).txq = s.txq ∧
    (s.settleEnd p early).txf = s.txf ∧ (s.settleEnd p early).reports = s.reports ∧
    (s.settleEnd p early).cmd = s.cmd ∧ (s.settleEnd p early).host = s.host ∧
    (s.settleEnd p early).pending = s.pending ∧ (s.settleEnd p early).time.now = s.time.now ∧
    (s.settleEnd p early).time.epoch = s.time.epoch ∧ (s.settleEnd p early).time.divisor = s.time.divisor ∧
    (s.settleEnd p early).time.pendingSet = s.time.pendingSet ∧
    (s.settleEnd p early).time.pendingDivisor = s.time.pendingDivisor ∧
    (s.settleEnd p early).time.slew = s.time.slew ∧
    (s.settleEnd p early).time.firstEdge = s.time.firstEdge := by
  unfold State.settleEnd State.settleReference; dsimp only
  split <;> split <;> simp

/-- The end of a packet leaves the framer in HUNT and the same fields as settling it (R45). -/
@[simp] theorem State.endPacket_frame (p : BodyPacket) (early : Bool) :
    (s.endPacket p early).inReset = s.inReset ∧ (s.endPacket p early).rxf = { s.rxf with state := .hunt } ∧
    (s.endPacket p early).txSequence = s.txSequence ∧ (s.endPacket p early).window = s.window ∧
    (s.endPacket p early).staging = s.staging ∧ (s.endPacket p early).txq = s.txq ∧
    (s.endPacket p early).txf = s.txf ∧ (s.endPacket p early).reports = s.reports ∧
    (s.endPacket p early).cmd = s.cmd ∧ (s.endPacket p early).host = s.host ∧
    (s.endPacket p early).pending = s.pending := by
  simp [State.endPacket]

/-! ### One receive queue -/

/-- A loss leaves the records, the configuration and the window alone (R61). -/
@[simp] theorem RxQueue.lose_frame (r : RxQueue) :
    r.lose.records = r.records ∧ r.lose.config = r.config ∧ r.lose.window = r.window ∧ r.lose.flush = r.flush ∧
    r.lose.batchCount = r.batchCount ∧ r.lose.batchComplete = r.batchComplete ∧ r.lose.admitted = r.admitted ∧
    r.lose.refused = r.refused ∧ r.lose.rejected = r.rejected ∧ r.lose.lost = r.lost + 1 ∧
    r.lose.pendingLoss = satInc r.pendingLoss := by
  unfold RxQueue.lose RxQueue.holdOnLoss; split <;> simp [RxQueue.raise]

/-- Batch accounting leaves the records and the configuration alone (R79). -/
@[simp] theorem RxQueue.accountBatch_frame (r : RxQueue) :
    r.accountBatch.records = r.records ∧ r.accountBatch.config = r.config ∧ r.accountBatch.window = r.window ∧
    r.accountBatch.flush = r.flush ∧ r.accountBatch.pendingLoss = r.pendingLoss ∧
    r.accountBatch.admitted = r.admitted ∧ r.accountBatch.lost = r.lost ∧ r.accountBatch.refused = r.refused ∧
    r.accountBatch.rejected = r.rejected := by
  unfold RxQueue.accountBatch RxQueue.countBatch
  split
  all_goals first
    | (dsimp only; split
       · simp
       · split <;> simp [RxQueue.stopWith, RxQueue.raise]
       · split
         · split <;> simp [RxQueue.stopWith, RxQueue.raise]
         · simp)
    | simp

/-- What a commit leaves in the record list, the counters and the configuration (R63). -/
@[simp] theorem RxQueue.commit_frame (r : RxQueue) (rec : RxRecord) :
    (r.commit rec).records = r.records ++ [{ rec with lossBefore := r.pendingLoss }] ∧
    (r.commit rec).config = r.config ∧ (r.commit rec).window = r.window ∧ (r.commit rec).flush = r.flush ∧
    (r.commit rec).pendingLoss = 0 ∧ (r.commit rec).admitted = r.admitted + 1 ∧ (r.commit rec).lost = r.lost ∧
    (r.commit rec).refused = r.refused ∧ (r.commit rec).rejected = r.rejected := by
  unfold RxQueue.commit RxQueue.raiseIf; dsimp only; split <;> simp [RxQueue.raise]

/-- A change of link time leaves the records, the counters and the configuration of a queue alone (R76, R77). -/
@[simp] theorem RxQueue.timeChange_frame (a b : LinkTime) (r : RxQueue) :
    (r.timeChange a b).records = r.records ∧ (r.timeChange a b).config = r.config ∧
    (r.timeChange a b).window = r.window ∧ (r.timeChange a b).flush = r.flush ∧
    (r.timeChange a b).batchCount = r.batchCount ∧ (r.timeChange a b).batchComplete = r.batchComplete ∧
    (r.timeChange a b).pendingLoss = r.pendingLoss ∧ (r.timeChange a b).admitted = r.admitted ∧
    (r.timeChange a b).lost = r.lost ∧ (r.timeChange a b).refused = r.refused ∧
    (r.timeChange a b).rejected = r.rejected := by
  have hs (x : RxQueue) : x.reachStop.records = x.records ∧ x.reachStop.config = x.config ∧
      x.reachStop.window = x.window ∧ x.reachStop.flush = x.flush ∧ x.reachStop.batchCount = x.batchCount ∧
      x.reachStop.batchComplete = x.batchComplete ∧ x.reachStop.pendingLoss = x.pendingLoss ∧
      x.reachStop.admitted = x.admitted ∧ x.reachStop.lost = x.lost ∧ x.reachStop.refused = x.refused ∧
      x.reachStop.rejected = x.rejected := by
    unfold RxQueue.reachStop; split <;> simp [RxQueue.stopWith, RxQueue.raise]
  have hr (x : RxQueue) : x.startRunning.records = x.records ∧ x.startRunning.config = x.config ∧
      x.startRunning.window = x.window ∧ x.startRunning.flush = x.flush ∧
      x.startRunning.batchCount = x.batchCount ∧ x.startRunning.batchComplete = x.batchComplete ∧
      x.startRunning.pendingLoss = x.pendingLoss ∧ x.startRunning.admitted = x.admitted ∧
      x.startRunning.lost = x.lost ∧ x.startRunning.refused = x.refused ∧
      x.startRunning.rejected = x.rejected := by
    simp [RxQueue.startRunning, RxQueue.raise]
  unfold RxQueue.timeChange; dsimp only
  split <;> (try split) <;> (try split) <;> (try split) <;> simp [hs, hr]

/-! ### A change of link time -/

/-- Reading a receive queue after every queue was changed by one function. -/
@[simp] theorem State.rxQueue_map (f : RxQueue → RxQueue) (q : RxQueueId) :
    ({ s with rxq := s.rxq.map f } : State).rxQueue q = f (s.rxQueue q) := by
  simp [State.rxQueue]

/-- Reading a transmit queue after every queue was changed by one function. -/
@[simp] theorem State.txQueue_map (f : TxQueue → TxQueue) (t : TxQueueId) :
    ({ s with txq := s.txq.map f } : State).txQueue t = f (s.txQueue t) := by
  simp [State.txQueue]

/-- A release changes the state of the transmit framer alone. -/
@[simp] theorem State.releaseDeadline_eq (t : TxQueueId) :
    s.releaseDeadline t = s.setTxFramer (.waitingLine t false false) := rfl

/-- A change of link time does one of three things at the deadline: nothing, the expiry of one it passes, or the release
of a watcher that noted a backward set, which drops nothing. -/
theorem State.deadlineChange_cases (a b : LinkTime) :
    s.deadlineChange a b = s ∨
    ∃ t setBack d, s.txf.state = .waitingLine t true setBack ∧
      (s.txQueue t).entries.head?.bind (·.deadline (s.txQueue t).config) = some d ∧
      ((d.passedBy a b = true ∧ s.deadlineChange a b = s.finishEntry t .lateDropped) ∨
        (d.passedBy a b = false ∧ d.releasedBy a b setBack = true ∧
          s.deadlineChange a b = s.setTxFramer (.waitingLine t false false))) := by
  unfold State.deadlineChange
  split
  · next t setBack hw =>
    split
    · next d hd =>
      split
      · next hp => exact .inr ⟨t, setBack, d, hw, hd, .inl ⟨hp, rfl⟩⟩
      · next hp =>
        split
        · next hr => exact .inr ⟨t, setBack, d, hw, hd, .inr ⟨by simpa using hp, hr, rfl⟩⟩
        · exact .inl rfl
    · exact .inl rfl
  · exact .inl rfl

/-- The answer at the deadline leaves everything but the transmit side, the pool, the reports and the event status
alone. -/
@[simp] theorem State.deadlineChange_frame (a b : LinkTime) :
    (s.deadlineChange a b).inReset = s.inReset ∧ (s.deadlineChange a b).time = s.time ∧
    (s.deadlineChange a b).rxf = s.rxf ∧ (s.deadlineChange a b).channels = s.channels ∧
    (s.deadlineChange a b).txSequence = s.txSequence ∧ (s.deadlineChange a b).rxq = s.rxq ∧
    (s.deadlineChange a b).window = s.window ∧ (s.deadlineChange a b).staging = s.staging ∧
    (s.deadlineChange a b).cmd = s.cmd ∧ (s.deadlineChange a b).host = s.host ∧
    (s.deadlineChange a b).pending = s.pending ∧ (s.deadlineChange a b).txf.lineTx = s.txf.lineTx := by
  obtain h | ⟨t, _, _, _, _, ⟨_, h⟩ | ⟨_, _, h⟩⟩ := State.deadlineChange_cases s a b <;> rw [h] <;> simp

/-- A change of link time leaves the tables, the window, staging, the framer and the host port alone. -/
@[simp] theorem State.timeChange_frame (a b : LinkTime) :
    (s.timeChange a b).inReset = s.inReset ∧ (s.timeChange a b).time = s.time ∧
    (s.timeChange a b).rxf = s.rxf ∧ (s.timeChange a b).channels = s.channels ∧
    (s.timeChange a b).txSequence = s.txSequence ∧
    (s.timeChange a b).rxq = s.rxq.map (RxQueue.timeChange a b) ∧
    (s.timeChange a b).window = s.window ∧ (s.timeChange a b).staging = s.staging ∧
    (s.timeChange a b).host = s.host ∧ (s.timeChange a b).pending = s.pending ∧
    (s.timeChange a b).txf.lineTx = s.txf.lineTx := by
  simp [State.timeChange]

end Sys2Proof.Machine
end

