-- ==== Sys2Proof/Laws/Window.lean ====
section
/-! SUPPORT. What the packed words of the register window are worth as numbers: each field adds its value at its
position (12, Register Map). -/

namespace Sys2Proof.Machine

/-- The value of a field that fits the word. -/
theorem inField_toNat (n width low : Nat) (h : width + low ≤ 16) :
    (inField n width low).toNat = n % 2 ^ width * 2 ^ low := by
  have hn : n % 2 ^ width < 2 ^ width := Nat.mod_lt _ (Nat.two_pow_pos _)
  have hb : n % 2 ^ width * 2 ^ low < 2 ^ width * 2 ^ low := Nat.mul_lt_mul_of_pos_right hn (Nat.two_pow_pos _)
  rw [← Nat.pow_add] at hb
  simp only [inField, BitVec.toNat_ofNat]
  exact Nat.mod_eq_of_lt (hb.trans_le (Nat.pow_le_pow_right (by decide) h))

/-- The value of a flag. -/
theorem inBit_toNat (b : Bool) (k : Nat) (h : k < 16) : (inBit b k).toNat = flagAt b k := by
  cases b
  · simp [inBit, flagAt]
  · simp only [inBit, flagAt, if_true]
    rw [inField_toNat 1 1 k (by omega)]
    simp

/-- A field joins the fields below it: the values add up. -/
theorem or_toNat_of_below {a b : Word} (k : Nat) (ha : a.toNat < 2 ^ k) (hb : 2 ^ k ∣ b.toNat) :
    (a ||| b).toNat = a.toNat + b.toNat := by
  obtain ⟨c, hc⟩ := hb
  rw [BitVec.toNat_or, hc, Nat.or_comm, ← Nat.two_pow_add_eq_or_of_lt ha c, Nat.add_comm]

/-- The two halves of a 32-bit value put together again. -/
@[simp] theorem upperWord_append_lowerWord (v : BitVec 32) : upperWord v ++ lowerWord v = v := by
  unfold upperWord lowerWord
  ext i h
  simp only [BitVec.getElem_append, BitVec.getElem_extractLsb']
  split
  · simp [BitVec.getLsbD_eq_getElem h]
  · rw [show 16 + (i - 16) = i by omega, BitVec.getLsbD_eq_getElem h]

end Sys2Proof.Machine
end

