-- ==== Sys2Proof/Tests/Slice0.lean ====
section
/-! SUPPORT. The model's own tests: the well-formedness smoke tests, one-step tests whose expected values are taken
from the worked sequences and rules of the spec, and for each statement with hypotheses a witness that meets them. -/

namespace Sys2Proof.Tests

open Sys2Proof Sys2Proof.Machine

set_option Elab.async false

/-! ### Small states -/

/-- The state a command leaves. -/
def after (c : Instr) (s : State) : State :=
  match exec c s with
  | .next t => t
  | _ => s

/-- `s` with operand words. -/
def withOps (s : State) (a : Word) (b c d e f g h : Word := 0) : State :=
  { s with cmd := { s.cmd with operands := ⟨a, b, c, d, e, f, g, h⟩ } }

/-- The state after reset with operand words. -/
def ops (a : Word) (b c d e f g h : Word := 0) : State := withOps State.reset a b c d e f g h

/-- `s` with free cells and free descriptors. -/
def withPool (s : State) (cells descs : Nat) : State :=
  { s with pool := { s.pool with freeCells := cells, freeDescs := descs } }

/-- `s` with link time `coarse:fine@epoch`. -/
def atTime (s : State) (coarse : BitVec 32) (fine : BitVec 12) (epoch : BitVec 8 := 0) : State :=
  { s with time := { s.time with now := ⟨coarse, fine⟩, epoch := epoch, firstEdge := decide (fine = 0) } }

/-- `s` with a command running. -/
def busyWith (s : State) (c : LongCommand) : State := { s with cmd := { s.cmd with running := some c } }

/-- `s` with LINE_RX on and the receive framer in a state. -/
def receiving (s : State) (f : RxFramerState) : State := { s with rxf := { s.rxf with lineRx := true, state := f } }

/-- `s` with LINE_TX on and the transmit framer in a state. -/
def sending (s : State) (f : TxFramerState) : State := { s with txf := { lineTx := true, state := f } }

/-- A header. -/
def headerFor (channel : ChannelId) (length : Byte) : Header :=
  { channel := channel, kind := .data, marker := false, sequence := 0, length := length }

/-- A record with a number of payload bytes. -/
def record (n : Nat) : RxRecord :=
  { queue := 5, header := headerFor 9 10, stamp := ⟨0, ⟨0, 0⟩⟩,
    flags := { lineError := false, checkFail := false, truncated := false, earlyStart := false, overlong := false,
               duplicate := false },
    gap := none, lossBefore := 0, arrival := 0, payload := List.replicate n 0xA5 }

/-- An entry of a transmit queue. -/
def entry (tag : Word) (launch : Option LinkTime) (due : Bool) (length : Byte := 10) : TxEntry :=
  { channel := 5, kind := .data, marker := false, insertTime := false, length := length, launch := launch, tag := tag,
    payload := List.replicate length.toNat 0x5A, due := due, attempts := 0, sequenceUsed := none, startStamp := none }

/-- A staging record for transmit queue 1 with a number of bytes written. -/
def staged (length : Byte) (written : Nat) (launch : Option LinkTime := none) : StagingRecord :=
  { queue := 1, channel := 5, kind := .data, marker := false, insertTime := false, length := length, launch := launch,
    tag := 6, payload := List.replicate written 0x5A }

/-- `s` with a staging record open. -/
def staging (s : State) (r : StagingRecord) : State := { s with staging := { s.staging with record := some r } }

/-- `s` with a receive queue in a state and with records. -/
def rxAt (s : State) (q : RxQueueId) (st : RxQueueState) (records : List RxRecord := []) : State :=
  s.setRxQueue q { RxQueue.reset with state := st, records := records }

/-- `s` with entries in a transmit queue. -/
def txAt (s : State) (t : TxQueueId) (entries : List TxEntry) : State :=
  s.setTxQueue t { TxQueue.reset with entries := entries }

/-- `s` with the read window open on a queue. -/
def opened (s : State) (q : RxQueueId) (offset : Nat) : State :=
  { s with window := { s.window with record := some ⟨q, offset⟩ } }

/-- An attempt at a position. -/
def attempt (t : TxQueueId) (position : Nat) : Attempt :=
  { queue := t, position := position, firstAccepted := decide (1 < position), crc := 0xFFFF, cut := false }

/-- A channel entry that routes to a queue with every option off. -/
def route (q : RxQueueId) : ChannelEntry :=
  { ChannelEntry.reset with config := { ChannelEntry.reset.config with action := .queue, queue := q } }

/-- Three header bytes collected. -/
def threeBytes (b0 b1 b2 : Byte) : HeaderPacket :=
  { stamp := ⟨0, ⟨0, 0⟩⟩, arrival := 1, bytes := [b0, b1, b2], lineError := false,
    crc := [b0, b1, b2].foldl crcByte 0xFFFF }

/-- A packet in BODY after its header, on a channel entry, with storage or without. -/
def inBody (h : Header) (e : ChannelEntry) (storage : Option (List Byte)) : BodyPacket :=
  { stamp := ⟨0, ⟨0, 0⟩⟩, arrival := 1, bytes := headerBytes h, header := h, snapshot := e,
    verdict := if storage.isSome then .admitted else .loss, duplicate := false, gap := none, count := 4,
    crc := (headerBytes h).foldl crcByte 0xFFFF, trailer := [], lineError := false, storage := storage, kept := [] }

/-! ### Well-formed commands -/

theorem test_wf_refuses_a_word_with_its_own_row : (Instr.registerWrite 0x00 0x0010).wellFormed = false := by decide
theorem test_wf_refuses_a_known_code : (Instr.unknownCommand 0x0010).wellFormed = false := by decide
theorem test_wf_accepts_operand_word_and_unknown_code :
    (Instr.registerWrite 0x01 0x1234).wellFormed = true ∧ (Instr.unknownCommand 0x0110).wellFormed = true := by decide

/-- The codes of 12, Command Codes: the first and the last of each group; the upper bits count (R178). -/
theorem test_command_codes :
    commandOfCode 0x10 = some .timeSet ∧ commandOfCode 0x18 = some .poolConfig ∧ commandOfCode 0x2B = some .txSeqSet ∧
    commandOfCode 0x3A = some .rxClose ∧ commandOfCode 0x47 = some .txFlush ∧ commandOfCode 0x60 = some .softReset ∧
    commandOfCode 0x00 = none ∧ commandOfCode 0x160 = none := by decide

/-- No word spells a row (log 20). -/
theorem test_no_word_spells_a_row : decodeTableWord 16 0x10 = none := by decide

/-! ### Link time: the worked sequence of 01 -/

theorem test_boundary_applies_the_divisor :
    let s := after .tclkEdge
      { atTime State.reset 4711 999 3 with
        time := { (atTime State.reset 4711 999 3).time with pendingDivisor := some 500, slew := 2 } }
    s.time.now = ⟨4712, 0⟩ ∧ s.time.divisor = 500 ∧ s.time.epoch = 3 ∧ s.time.slew = 2 ∧ s.irq.status = 0x020 := by
  decide +kernel
theorem test_first_edge_steps_forward :
    let s := after .tclkEdge { State.reset with time := { TimeBase.reset with now := ⟨4713, 0⟩, slew := 1 } }
    s.time.now = ⟨4713, 2⟩ ∧ s.time.slew = 0 ∧ s.irq.status = 0x040 := by decide +kernel
theorem test_boundary_applies_the_set :
    let s := after .coarseBoundary
      { State.reset with time := { TimeBase.reset with now := ⟨4713, 499⟩, epoch := 3, divisor := 500,
                                                       pendingSet := some 9000, firstEdge := false } }
    s.time.now = ⟨9000, 0⟩ ∧ s.time.epoch = 4 ∧ s.irq.status = 0x020 := by decide +kernel
theorem test_time_set_is_pending : (after .timeSet (ops 0 9000)).time.pendingSet = some 9000 := by decide +kernel
theorem test_divisor_4096_is_pending :
    (after .timeDivisor (ops 4096)).time.pendingDivisor = some 4096 ∧
    (after .timeDivisor (ops 4097)).cmd.result = .badArg := by decide +kernel
theorem test_adjust_takes_minus_one : (after .timeAdjust (ops 0xFFFF)).time.slew = -1 := by decide +kernel
theorem test_time_read_returns_the_upper_half :
    let s := after .timeCHiRead (atTime State.reset 0x00041267 0x0FA 9)
    s.host.lastRead = some 4 ∧ s.readWord 0x0F = 0x1267 ∧ s.readWord 0x10 = 0xFA ∧ s.readWord 0x11 = 9 := by
  decide +kernel
/-- The full reference list of 01's second worked sequence loses its oldest entry and saturates its counter at 255. -/
theorem test_full_reference_list :
    let r (n : Word) : RefEntry := ⟨12, ⟨0, ⟨0, 0⟩⟩, 0, n⟩
    let s := ({ State.reset with time := { TimeBase.reset with
      refs := [1, 2, 3, 4, 5, 6, 7, 8].map r, refOverwrites := 255 } } : State).appendReference (r 9)
    (s.time.refs.map RefEntry.remoteFine = [2, 3, 4, 5, 6, 7, 8, 9]) ∧ s.time.refOverwrites = 255 ∧
      s.irq.status = 0x018 ∧
      (after .refPop s).time.refs.map RefEntry.remoteFine = [3, 4, 5, 6, 7, 8, 9] := by decide +kernel

/-! ### The pool: the worked accountings of 02 -/

theorem test_refusals_near_the_reserve :
    let p : Pool := { freeCells := 66, freeDescs := 40, cellReserve := 64, descReserve := 16, lowThreshold := 128 }
    rxReservationRefusal p 62 64 (cellsFor 150) = some .quota ∧ rxReservationRefusal p 62 64 (cellsFor 100) = none ∧
    rxReservationRefusal { p with freeCells := 64, freeDescs := 39 } 10 64 (cellsFor 10) = some .noCells ∧
    rxReservationRefusal { p with freeCells := 64, freeDescs := 39 } 10 64 (cellsFor 0) = none ∧
    rxReservationRefusal { p with freeCells := 60, freeDescs := 39 } 10 0 (cellsFor 0) = none := by decide
theorem test_tx_begin_takes_reserved_cells :
    let s := after .txBegin (withOps (withPool State.reset 64 38) 1 5 0 200)
    s.pool.freeCells = 60 ∧ s.pool.freeDescs = 37 ∧ s.irq.status = 0x001 := by decide +kernel
theorem test_pool_config_raises_pool_low :
    let s := after .poolConfig (withOps (withPool State.reset 200 400) 1024 512 201)
    s.pool = { freeCells := 200, freeDescs := 400, cellReserve := 1024, descReserve := 512, lowThreshold := 201 } ∧
      s.irq.status = 0x101 := by decide +kernel

/-! ### Receive framing: R34, R35, and the worked sequences of 03 and 02 -/

theorem test_header_check : headerCheck 0x4C 0x81 0x96 = 0x9C := by decide
/-- The CRC of R35 by hand over one byte of zeros: eight shifts of FFFFh, each fed back. -/
theorem test_crc_of_a_zero_byte : crcByte 0xFFFF 0x00 = 0xE1F0 := by decide +kernel
theorem test_stray_byte_and_start_byte :
    let s := { receiving State.reset .hunt with
      rxf := { RxFramer.reset with lineRx := true, packetsSeen := 900, strayBytes := 7 } }
    (after (.lineByte 0x11 false true false) s).rxf.strayBytes = 8 ∧
    (after (.lineByte 0x11 true false false) s).rxf.packetsSeen = 901 := by decide +kernel
/-- 02's 150-byte packet: the reservation at its header. -/
theorem test_reservation_at_the_header :
    let s := after (.lineByte (headerCheck 5 0 150) false false false)
      (receiving (rxAt ((withPool State.reset 700 400).setChannel 5 (route 5)) 5 .run) (.header (threeBytes 5 0 150)))
    s.pool.freeCells = 697 ∧ s.pool.freeDescs = 399 ∧ s.fillingCells = some 3 := by decide +kernel
/-- 03's early start: P1 is committed with 40 of 100 bytes and the second cell returns, then P2 begins. -/
theorem test_early_start :
    let p : BodyPacket := { inBody (headerFor 9 100) (route 2) (some (List.replicate 40 0)) with count := 44 }
    let s := after (.lineByte 0x09 true false false)
      (receiving (rxAt (withPool State.reset 498 299) 2 .run) (.body p))
    s.pool.freeCells = 499 ∧ s.pool.freeDescs = 299 ∧
      (s.rxQueue 2).records.map (fun r => (r.payload.length, r.flags.truncated, r.flags.earlyStart, r.flags.checkFail)) =
        [(40, true, true, true)] := by decide +kernel
theorem test_line_rx_off_returns_the_filling_record :
    let s := after .lineRx (receiving (withPool State.reset 1022 511) (.body (inBody (headerFor 9 100) (route 2) (some []))))
    s.rxf.state = .hunt ∧ s.pool.freeCells = 1024 ∧ s.pool.freeDescs = 512 ∧ s.rxf.lineRx = false := by decide +kernel

/-! ### Channel table (04) -/

theorem test_sequence_gap_wraps :
    checkSequence { route 1 with config := { (route 1).config with sequenceCheck := true }, lastSequence := some 15 } 2 =
      .gap 2 := by decide
theorem test_ch_write_and_ch_read :
    let s := after .chWrite (ops 63 1 15 1 0 1 1 1)
    (s.channel 63).config =
      { action := .queue, queue := 15, errored := .discard, check := .keep, duplicate := .discard, sequenceCheck := true,
        reference := true } ∧
    (after .chRead (withOps (s.setChannel 63 { s.channel 63 with lastSequence := some 9, duplicatesDropped := 7 })
      63)).cmd.operands = ⟨0x0719, 1, 15, 1, 0, 1, 1, 1⟩ := by decide +kernel
theorem test_ch_seq_reset :
    let s := (ops 2 1).setChannel 2 { route 2 with lastSequence := some 4, duplicatesDropped := 3 }
    ((after .chSeqReset s).channel 2).lastSequence = none ∧ ((after .chSeqReset s).channel 2).duplicatesDropped = 0 := by
  decide +kernel
theorem test_tx_seq_set :
    (after .txSeqSet (ops 5 15)).txSequenceOf 5 = 15 ∧ (after .txSeqSet (ops 5 16)).cmd.result = .badArg := by
  decide +kernel

/-! ### Receive queues (05) -/

theorem test_rx_config :
    ((after .rxConfig (ops 15 2 100 1 1024 512)).rxQueue 15).config =
      { mode := .relayBatch, batchSize := 100, overrun := .hold, quota := 1024, watermark := 512 } := by decide +kernel
theorem test_rx_window :
    ((after .rxWindow (ops 4 0x11 0 500 250 0 501 0)).rxQueue 4).window = ⟨.atTime ⟨500, 250⟩, some ⟨501, 0⟩⟩ ∧
    (after .rxWindow (ops 4 0x11 0 500 250 0 500 250)).cmd.result = .badArg := by decide +kernel
theorem test_rx_enable_runs_and_disable_turns_off :
    let s := after .rxEnable (ops 6)
    (s.rxQueue 6).state = .run ∧ (s.rxQueue 6).events = 0x01 ∧
      ((after .rxDisable s).rxQueue 6).state = .off := by decide +kernel
theorem test_relay_batch_completes_and_is_acknowledged :
    let q : RxQueue := { RxQueue.reset with
      state := .run, config := { RxQueue.reset.config with mode := .relayBatch, batchSize := 2 }, batchCount := 1 }
    let s := withOps (State.reset.setRxQueue 7 (q.commit (record 3))) 7
    (s.rxQueue 7).state = .grace ∧ (s.rxQueue 7).batchComplete = true ∧ (s.rxQueue 7).batchCount = 0 ∧
      ((after .rxAckBatch s).rxQueue 7).state = .run := by decide +kernel
theorem test_rearm_and_resume :
    ((after .rxRearm (rxAt (ops 7) 7 (.stopped .batchDone))).rxQueue 7).state = .run ∧
    (after .rxRearm (rxAt (ops 7) 7 (.stopped .windowEnd))).cmd.result = .wrongState ∧
    ((after .rxResume (rxAt (ops 7) 7 (.held .grace))).rxQueue 7).state = .grace := by decide +kernel
theorem test_window_end :
    let w : RxQueue := { RxQueue.reset with state := .run, window := ⟨.now, some ⟨10, 0⟩⟩ }
    ((after (.stopTimeReached 3) ((atTime State.reset 10 0).setRxQueue 3 w)).rxQueue 3).state = .stopped .windowEnd ∧
    ((after (.startTimeReached 3) ((atTime State.reset 10 0).setRxQueue 3
      { w with state := .pending, window := ⟨.atTime ⟨10, 0⟩, none⟩ })).rxQueue 3).state = .run := by decide +kernel
/-- The flush of 06's second worked sequence: the window closes at the acceptance with WINDOW_LOST, and the last removal
completes. -/
theorem test_flush_takes_the_open_record :
    let s := after .rxFlush (opened (rxAt (withPool (ops 8) 1022 510) 8 .run [record 40, record 1]) 8 16)
    s.window.record = none ∧ s.irq.status = 0x800 ∧ s.cmd.running = some (.rxFlush 8) ∧
      (after (.rxFlushRemoval 8) (after (.rxFlushRemoval 8) s)).pool.freeDescs = 512 ∧
      (after (.rxFlushRemoval 8) (after (.rxFlushRemoval 8) s)).cmd.running = none := by decide +kernel

/-! ### The read window: 06's first worked sequence -/

theorem test_open_read_and_release :
    let s := after .rxOpen (rxAt (withPool (ops 5) 799 399) 5 .run [record 70, record 3])
    s.window.record = some ⟨5, 0⟩ ∧ (after (.dataPortRead .dma) s).window.record = some ⟨5, 2⟩ ∧
      (after (.dataPortRead .processor) (opened s 5 70)).window.readPastEnd = true ∧
      (after .rxRelease s).pool.freeCells = 801 ∧ (after .rxRelease s).pool.freeDescs = 400 := by decide +kernel
theorem test_odd_record_has_a_zero_upper_half :
    (after (.dataPortRead .dma) (opened (rxAt State.reset 5 .run [record 3]) 5 2)).host.lastRead = some 0x00A5 ∧
    (after .rxClose (opened (rxAt State.reset 5 .run [record 3]) 5 2)).window.record = none := by decide +kernel

/-! ### Transmit staging and queues: 07's worked sequences -/

theorem test_tx_begin_of_the_sequence :
    let s := after .txBegin (withOps (withPool State.reset 300 200) 1 5 0x40 130 0 7990 0 6)
    s.pool.freeCells = 297 ∧ s.pool.freeDescs = 199 ∧ s.staging.record = some (staged 130 0 (some ⟨7990, 0⟩)) := by
  decide +kernel
theorem test_tx_submit_checks :
    let e := txAt State.reset 1 [entry 5 (some ⟨8000, 0⟩) false 40]
    (after .txSubmit (staging e (staged 130 128))).cmd.result = .incomplete ∧
    (after .txSubmit (staging e (staged 130 130 (some ⟨7990, 0⟩)))).cmd.result = .order ∧
    ((after .txSubmit (staging e (staged 130 130 (some ⟨8000, 0⟩)))).txQueue 1).entries.map TxEntry.tag = [5, 6] := by
  decide +kernel
theorem test_data_port_write :
    (after (.dataPortWrite .processor 0xBBAA) (staging State.reset (staged 3 0))).staging.record.map
      StagingRecord.payload = some [0xAA, 0xBB] ∧
    (after (.dataPortWrite .dma 0xBBAA) (staging State.reset (staged 3 3))).staging.writePastEnd = true := by
  decide +kernel
theorem test_tx_abandon :
    let s := after .txAbandon (staging (withPool State.reset 297 199) (staged 130 130))
    s.pool.freeCells = 300 ∧ s.pool.freeDescs = 200 ∧ s.staging.record = none := by decide +kernel
/-- Queue 2 of 07's second sequence: A is SENDING, and B, C, D are behind it. -/
def flushState (b : Word) : State :=
  withOps (sending (txAt State.reset 2 [entry 10 none true, entry 11 none true, entry 10 none true, entry 12 none true])
    (.sending (attempt 2 1))) 2 b
theorem test_tx_cancel :
    (after .txCancel (flushState 10)).cmd.result = .inFlight ∧
    ((after .txCancel (flushState 12)).reports.list.map fun r => (r.tag, r.result)) = [(12, .cancelled)] ∧
    (after .txCancel (flushState 13)).cmd.result = .notFound := by decide +kernel
theorem test_tx_flush_removes_behind_the_sending_head :
    let s := after (.txFlushRemoval 2) (after .txFlush (flushState 0))
    (s.txQueue 2).entries.map TxEntry.tag = [10, 10, 12] ∧ s.cmd.running = some (.txFlush 2) ∧
      (s.reports.list.map fun r => (r.tag, r.result)) = [(11, .flushed)] := by decide +kernel
theorem test_tx_config :
    ((after .txConfig (ops 3 64 2 1 7)).txQueue 3).config =
      { depth := 64, tolerance := 2, late := .dropLate, retryLimit := 7 } ∧
    (after .txConfig (ops 3 0 2 1 7)).cmd.result = .badArg := by decide +kernel
theorem test_pause_and_start :
    ((after .txPause (ops 3)).txQueue 3).paused = true ∧
    ((after .txStart (after .txPause (ops 3))).txQueue 3).paused = false := by decide +kernel

/-- A reset state with a time base. -/
def timed (b : TimeBase) : State := { State.reset with time := b }

/-! ### Launching and transmitting: 08's worked sequences -/

/-- Step 5 of the selection sequence: T2 goes first by its earlier launch time; without it T1 by its lower queue. -/
theorem test_selection :
    let t1 := entry 1 (some ⟨700, 0⟩) true
    let s := txAt (txAt (sending (atTime State.reset 700 0) .idle) 1 [t1]) 3 [t1]
    (txAt s 2 [entry 2 (some ⟨650, 0⟩) true]).selects = some 2 ∧ s.selects = some 1 := by decide +kernel
theorem test_line_tx_selects :
    (after .lineTx (txAt (ops 1) 0 [entry 1 none true])).txf = ⟨.waitingLine 0 false false, true⟩ := by decide +kernel
theorem test_launch_time_makes_due :
    ((after (.launchTimeReached 0 0) (txAt (atTime State.reset 700 0) 0 [entry 1 (some ⟨700, 0⟩) false])).txQueue
      0).entries.map TxEntry.due = [true] := by decide +kernel
/-- The entry E of the second sequence, waiting at 6000:130. -/
def lineWait (e : TxEntry) : State :=
  sending (txAt ((atTime State.reset 6000 130 7).setTxSequence 5 9) 0 [e]) (.waitingLine 0 false false)
theorem test_ltrdy_begins_the_attempt :
    let s := after .ltrdy (lineWait (entry 40 (some ⟨6000, 0⟩) true 6))
    s.txf.state = .sending { queue := 0, position := 1, firstAccepted := false, crc := 0xFFFF, cut := false } ∧
      ((s.txQueue 0).entries.map fun e => (e.attempts, e.sequenceUsed)) = [(1, some 9)] := by decide +kernel
theorem test_inserted_time_bytes :
    timeBytes ⟨7, ⟨6000, 131⟩⟩ = [0x00, 0x00, 0x17, 0x70, 0x00, 0x83] ∧
    timeBytes ⟨7, ⟨6002, 501⟩⟩ = [0x00, 0x00, 0x17, 0x72, 0x01, 0xF5] := by decide
/-- Step 7: the last byte is accepted, the start stamp is past the deadline, and the table advances. -/
theorem test_last_byte_is_sent_late :
    let e : TxEntry := { entry 40 (some ⟨6000, 0⟩) true 6 with
      attempts := 2, sequenceUsed := some 9, startStamp := some ⟨7, ⟨6002, 501⟩⟩ }
    let s := (sending (txAt ((withPool State.reset 1023 511).setTxSequence 5 9) 0 [e])
      (.sending (attempt 0 12))).setTxQueue 0
        { TxQueue.reset with config := { TxQueue.reset.config with tolerance := 2, retryLimit := 1 }, entries := [e] }
    ((after .ltrdy s).reports.list.map fun r => (r.tag, r.result, r.attempts, r.sequenceUsed)) =
        [(40, .sentLate, 2, some 9)] ∧
      (after .ltrdy s).txSequenceOf 5 = 10 ∧ (after .ltrdy s).pool.freeCells = 1024 ∧
      ((after .ltabt s).reports.list.map Report.result) = [.aborted] ∧ (after .ltabt s).txSequenceOf 5 = 9 := by
  decide +kernel
/-- R12's last clause and R135's: the count that reaches a saturated deadline anew after a backward set releases its
watcher, and time does not drop the entry. -/
theorem test_saturated_deadline_after_a_backward_set :
    let waiting (fine : BitVec 12) (pendingSet : Option (BitVec 32)) : State :=
      txAt (sending (timed { TimeBase.reset with now := ⟨4294967295, fine⟩, divisor := 4096, firstEdge := false,
                                                 pendingSet := pendingSet }) (.waitingLine 3 true false)) 3
        [entry 1 (some ⟨4294967295, 4095⟩) true]
    let set := after .coarseBoundary (waiting 4095 (some 9))
    let counted := { set with time := { set.time with now := ⟨4294967295, 4094⟩, firstEdge := false } }
    (after .tclkEdge (waiting 4094 none)).txf.state = .waitingLine 3 true false ∧
      set.txf.state = .waitingLine 3 true true ∧ (after .tclkEdge counted).txf.state = .waitingLine 3 false false ∧
      (after .tclkEdge counted).reports.list = [] ∧ ((after .tclkEdge counted).txQueue 3).entries ≠ [] := by
  decide +kernel
theorem test_deadline_expires_past_the_deadline :
    let s (fine : BitVec 12) := (sending (atTime State.reset 6002 fine) (.waitingLine 0 true false)).setTxQueue 0
      { TxQueue.reset with config := { TxQueue.reset.config with tolerance := 2, late := .dropLate }
                           entries := [entry 40 (some ⟨6000, 0⟩) true] }
    (after .deadlineExpiry (s 1)).reports.list.map Report.result = [.lateDropped] ∧
      after .deadlineExpiry (s 0) = s 0 := by decide +kernel

/-! ### Reports (09), the command unit (10), interrupts and the host port (11, 12) -/

theorem test_report_pop :
    let r (tag : Word) := reportOf 0 (entry tag none true) .sent
    let s := { State.reset with reports := { ReportQueue.reset with list := [r 7, r 8] } }
    (after .reportPop s).reports.list = [r 8] ∧ (after .reportPop State.reset).cmd.result = .empty := by decide +kernel
theorem test_busy_unit_refuses :
    let s := after .rxOpen (busyWith (ops 9) (.rxFlush 8))
    s.cmd.refused = true ∧ s.irq.status = 0x002 ∧ (after (.cmdStatusWrite 2) s).cmd.refused = false := by decide +kernel
theorem test_unknown_code : (after (.unknownCommand 0x61) State.reset).cmd.result = .unknown := by decide +kernel
/-- SOFT_RESET with a SENDING head and one record: the acceptance, then the removal and the end of the cut. -/
theorem test_soft_reset :
    let s := after .softReset (rxAt (txAt (sending (withPool State.reset 1021 510) (.sending (attempt 0 3))) 0
      [entry 1 none true 100]) 1 .run [record 5])
    s.cmd.running = some .softReset ∧ (s.rxQueue 1).state = .off ∧
      (after .ltabt (after (.softResetRxRemoval 1) s)).cmd.running = none ∧
      (after .ltabt (after (.softResetRxRemoval 1) s)).irq.status = 0x001 := by decide +kernel
theorem test_soft_reset_removes_an_entry :
    let s := after .softReset (txAt (withPool State.reset 1022 511) 2 [entry 1 none true 100])
    (after (.softResetTxRemoval 2) s).pool.freeCells = 1024 ∧ (after (.softResetTxRemoval 2) s).reports.list = [] := by
  decide +kernel
theorem test_event_words :
    let s := { State.reset with irq := { status := 0xFFB, enable := 0 } }
    (after (.evtStatusWrite 0x801) s).irq.status = 0x7FA ∧ (after (.evtEnableWrite 0xF804) s).irq.enable = 0x804 ∧
    ((after (.qEventsWrite 0x21) ((State.reset).setRxQueue 0 { RxQueue.reset with events := 0x3F })).rxQueue
      0).events = 0x1E := by decide +kernel
theorem test_window_words :
    let s := { State.reset with
      window := { ReadWindow.reset with readPastEnd := true, noWindowRead := true }
      staging := { Staging.reset with writePastEnd := true, noWindowWrite := true } }
    (after (.winStatusWrite 2) s).window.noWindowRead = true ∧ (after (.winStatusWrite 2) s).window.readPastEnd = false ∧
    (after (.stgStatusWrite 4) s).staging.noWindowWrite = false ∧
    (after (.winCtrlWrite 1) s).window.direction = .tx := by decide +kernel
theorem test_register_write :
    (after (.registerWrite 0x08 0xBEEF) State.reset).cmd.operands.h = 0xBEEF ∧
    (after (.registerWrite 0x34 0xFFF5) State.reset).host.qsel = 5 ∧
    (after (.registerWrite 0x0D 0xFFFF) State.reset) = State.reset := by decide +kernel
/-- DEVICE_ID reads 4204h, and nothing drives HD15..HD0 while RESET_N is asserted (R174). -/
theorem test_host_read :
    State.reset.hostRead 0x39 = some 0x4204 ∧ (State.hardwareReset true []).hostRead 0x39 = none := by decide +kernel
theorem test_reset_pin :
    let s := after .hardwareReset (atTime State.reset 5 5)
    s = State.hardwareReset true [] ∧ after .ltrdy s = s ∧ after .resetNRelease s = State.reset ∧
      after .powerUp (atTime State.reset 5 5) = s := by decide +kernel
theorem test_core_is_this_model : Sys2Proof.core.step State.reset = .next State.reset := rfl

/-! ### Witnesses: for each statement with hypotheses, states and operands that meet them, clause by clause -/

theorem witness_StepRunsFrontCommand :
    ({ State.reset with pending := [.ltrdy, .tclkEdge] } : State).pending = [.ltrdy, .tclkEdge] ∧
      State.reset.pending = [] := by decide +kernel

theorem witness_HeldResetIgnoresEverything :
    (State.hardwareReset true []).inReset = true ∧ Instr.tclkEdge ≠ .hardwareReset ∧ Instr.tclkEdge ≠ .powerUp ∧
      Instr.tclkEdge ≠ .resetNRelease := by decide +kernel

theorem witness_BusyUnitRefusesEveryCommand :
    let s := busyWith State.reset .softReset
    commandCode .timeSet = some 0x10 ∧ commandCode .softReset = some 0x60 ∧
      commandCode (.unknownCommand 0) = some 0 ∧ s.inReset = false ∧ s.cmd.running = some .softReset := by
  decide +kernel

theorem witness_UnknownCodeCompletesWithUnknown :
    commandOfCode 0x0F = none ∧ commandOfCode 0x61 = none ∧ State.reset.inReset = false ∧
      State.reset.cmd.running = none ∧ (busyWith State.reset (.txFlush 3)).inReset = false ∧
      (busyWith State.reset (.txFlush 3)).cmd.running = some (.txFlush 3) := by decide +kernel

theorem ops_takesCommands (a b c d e f g h : Word) : (ops a b c d e f g h).takesCommands := ⟨rfl, rfl⟩

theorem witness_NumberOutOfRangeIsBadArg :
    (ops 16).takesCommands ∧ 15 < (ops 16).cmd.operands.a.toNat ∧ (ops 4).takesCommands ∧
      3 < (ops 4).cmd.operands.a.toNat ∧ (ops 64).takesCommands ∧ 63 < (ops 64).cmd.operands.a.toNat := by
  unfold State.takesCommands; decide +kernel

theorem witness_TimeCommandsBecomePending :
    let slewing (a : Word) : State := { ops a with time := { TimeBase.reset with slew := -1 } }
    (∀ a, (slewing a).takesCommands) ∧ (slewing 0).time.slew ≠ 0 ∧
      (ops 4).cmd.operands.a.toNat = (4 : BitVec 13).toNat ∧ (ops 4096).cmd.operands.a.toNat = (4096 : BitVec 13).toNat ∧
      (ops 3).cmd.operands.a.toNat < 4 ∧ 4096 < (ops 4097).cmd.operands.a.toNat ∧
      (ops 0x8000).cmd.operands.a = 0x8000 ∧ (ops 0x8001).cmd.operands.a ≠ 0x8000 ∧
      (ops 0x8001).cmd.operands.a ≠ 0 ∧ (ops 0x7FFF).cmd.operands.a ≠ 0x8000 ∧ (ops 0).cmd.operands.a = 0 ∧
      (ops 0).time.slew = 0 := by
  refine ⟨fun a => ⟨rfl, rfl⟩, ?_⟩; decide +kernel

/-- With no queue watching, no entry and the framer IDLE, no watcher is behind. -/
theorem watchersAhead_of_quiet (s : State) (h1 : ∀ q, (s.rxQueue q).startWatched = none)
    (h2 : ∀ q, (s.rxQueue q).stopWatched = none) (h3 : ∀ t, (s.txQueue t).entries = []) : s.WatchersAhead := by
  refine ⟨?_, ?_, ?_, ?_⟩ <;> intros <;> simp_all

theorem timed_watchersAhead (b : TimeBase) : (timed b).WatchersAhead :=
  watchersAhead_of_quiet _ (by decide +kernel : ∀ q, (State.reset.rxQueue q).startWatched = none)
    (by decide +kernel : ∀ q, (State.reset.rxQueue q).stopWatched = none)
    (by decide +kernel : ∀ t, (State.reset.txQueue t).entries = [])

/-- Without a running TX_FLUSH the premise about its work is met. -/
theorem flushHasWork_of_none (s : State) (h : s.NoTxFlush) : s.FlushHasWork := fun t ht => absurd ht (h t)

/-- A TX_FLUSH that runs with an entry waiting in its queue has work. -/
theorem flushing_hasWork (b : TimeBase) :
    (txAt (busyWith (timed b) (.txFlush 3)) 3 [entry 1 none true]).FlushHasWork := by
  intro t h
  have : t = 3 := by cases h; rfl
  subst this
  refine ⟨(by decide +kernel : ((txAt State.reset 3 [entry 1 none true]).txQueue 3).entries ≠ []), fun _ a ha => ?_⟩
  cases ha

theorem witness_CountingEdgeChangesOnlyTheTimeBase :
    let b (slew : Int) : TimeBase := { TimeBase.reset with divisor := 4, slew := slew }
    (∀ x, (timed (b x)).inReset = false ∧ (timed (b x)).time.now.fine.toNat + 1 ≠ (timed (b x)).time.divisor.toNat ∧
      (timed (b x)).NothingToSelect ∧ (timed (b x)).time.firstEdge = true) ∧
      (timed { b 0 with now := ⟨0, 1⟩, firstEdge := false }).WatchersAhead ∧ (timed (b 0)).FlushHasWork ∧
      (busyWith (timed (b 0)) (.rxFlush 3)).FlushHasWork ∧
      (txAt (busyWith (timed (b 0)) (.txFlush 3)) 3 [entry 1 none true]).FlushHasWork ∧
      (timed (b 0)).time.slew = 0 ∧ 0 < (timed (b 1)).time.slew ∧ (timed (b (-1))).time.slew < 0 := by
  refine ⟨fun x => ⟨rfl, (by decide : (0 : BitVec 12).toNat + 1 ≠ (4 : BitVec 13).toNat), ?_, rfl⟩, timed_watchersAhead _, flushHasWork_of_none _ ?_,
    flushHasWork_of_none _ ?_, flushing_hasWork _, by decide, by decide, by decide⟩
  · exact (by decide +kernel : State.reset.selects = none)
  all_goals unfold State.NoTxFlush; decide +kernel

theorem witness_BoundaryAppliesWhatIsPending :
    let b (set : Option (BitVec 32)) : TimeBase :=
      { TimeBase.reset with now := ⟨0xFFFFFFFF, 999⟩, firstEdge := false, pendingSet := set, pendingDivisor := some 4 }
    (∀ x, (timed (b x)).inReset = false ∧ (timed (b x)).NothingToSelect ∧
      (txAt (busyWith (timed (b x)) (.txFlush 3)) 3 [entry 1 none true]).FlushHasWork) ∧
      (timed (b none)).time.now.fine.toNat + 1 = (timed (b none)).time.divisor.toNat ∧
      (sending (timed (b (some 9000))) (.waitingLine 3 true false)).txf.state = .waitingLine 3 true false ∧
      (sending (timed (b (some 9000))) (.waitingLine 3 true false)).inReset = false ∧
      (timed (b (some 9000))).time.pendingSet = some 9000 ∧ (timed (b none)).time.pendingSet = none ∧
      (timed { b none with now := ⟨9000, 0⟩, epoch := 1, pendingDivisor := none, divisor := 4,
                           firstEdge := true }).WatchersAhead := by
  refine ⟨fun x => ⟨rfl, ?_, flushing_hasWork _⟩, ?_, ?_, ?_, ?_, ?_, timed_watchersAhead _⟩
  · exact (by decide +kernel : State.reset.selects = none)
  all_goals decide +kernel

theorem witness_ReceiveQueuesStartAndStopInLinkTime :
    let q : RxQueue := { RxQueue.reset with state := .pending }
    let s (w : RxWindow) (fine : BitVec 12) : State := (atTime State.reset 7 fine).setRxQueue 15 { q with window := w }
    let T : LinkTime := ⟨7, 1⟩
    (s ⟨.atTime T, none⟩ 1).time.now.before T = false ∧ ((s ⟨.atTime T, none⟩ 1).rxQueue 15).state = .pending ∧
      ((s ⟨.now, some T⟩ 1).rxQueue 15).state ≠ .off ∧ ((s ⟨.now, some T⟩ 1).rxQueue 15).window.stop = some T ∧
      (s ⟨.atTime T, some ⟨7, 2⟩⟩ 1).time.now.before ⟨7, 2⟩ = true ∧
      (∀ w ∈ ([⟨.atTime T, none⟩, ⟨.atTime T, some ⟨7, 2⟩⟩, ⟨.atTime T, some T⟩, ⟨.now, some T⟩] : List RxWindow),
        (s w 0).inReset = false ∧ ((s w 0).rxQueue 15).window = w ∧ (s w 0).time.now.before T = true ∧
          (after .tclkEdge (s w 0)).time.now.before T = false) := by
  decide +kernel

theorem witness_PopsRemoveTheOldest :
    let e : RefEntry := ⟨12, ⟨0, ⟨0, 0⟩⟩, 0, 1⟩
    let s : State := { ops 0 with time := { TimeBase.reset with refs := [e] }
                                  reports := ⟨[reportOf 0 (entry 1 none true) .sent], 0⟩ }
    s.takesCommands ∧ (s.readWord 0x15).toNat = 12 ∧ (s.readWord 0x2B).toNat = 1 ∧ s.time.refs = [e] ∧ s.reports.list = [reportOf 0 (entry 1 none true) .sent] ∧
      (ops 0).time.refs = [] ∧ (ops 0).reports.list = [] := by
  unfold State.takesCommands; decide +kernel

theorem witness_PassingATimeAndSaturatedSums :
    (4294901760 : BitVec 32).toNat + (65535 : Word).toNat ≤ 4294967295 ∧
      4294967295 < (4294967295 : BitVec 32).toNat + (1 : Word).toNat ∧
      (⟨4294967295, 4094⟩ : LinkTime) ≠ ⟨4294967295, 4095⟩ ∧
      (⟨4294967295, 4094⟩ : LinkTime).before ⟨4294967295, 4095⟩ = true := by decide

theorem witness_ReceiveReservationConditions :
    let s (cells descs : Nat) := rxAt (withPool State.reset cells descs) 5 .run [record 60]
    let ask (cells descs quota : Nat) :=
      rxReservationRefusal (s cells descs).pool ((s cells descs).rxQueue 5).cellCount quota (cellsFor 64)
    let none64 (cells descs : Nat) := rxReservationRefusal (s cells descs).pool ((s cells descs).rxQueue 5).cellCount 0
      (cellsFor (headerFor 9 0).length.toNat)
    (headerFor 9 0).length = 0 ∧ none64 0 17 = none ∧ none64 0 16 = some .noDescriptor ∧
      ask 65 17 2 = none ∧ ask 65 16 2 = some .noDescriptor ∧ ask 65 17 1 = some .quota ∧
      ask 64 17 2 = some .noCells := by decide +kernel

theorem witness_TxBeginReservesAndOpensStaging :
    let s := withOps (withPool State.reset 4 1) 3 63 0x00 255
    let timeArgs := ops 3 63 0x61 6 0 0 4095
    (staging s (staged 0 0)).takesCommands ∧ (staging s (staged 0 0)).staging.record ≠ none ∧
      (ops 0 0 0 256).takesCommands ∧ 255 < (ops 0 0 0 256).cmd.operands.d.toNat ∧
      (ops 0 0 0x40 0 0 0 4096).cmd.operands.c.getLsbD 6 = true ∧ 4095 < (ops 0 0 0x40 0 0 0 4096).cmd.operands.g.toNat ∧
      s.takesCommands ∧ s.staging.record = none ∧ s.cmd.operands.a.toNat = (3 : TxQueueId).val ∧
      s.cmd.operands.b.toNat = (63 : ChannelId).val ∧ s.cmd.operands.c.extractLsb' 0 2 = Kind.data.bits ∧
      s.cmd.operands.d.toNat = (255 : Byte).toNat ∧ s.cmd.operands.c.getLsbD 6 = false ∧
      s.cmd.operands.c.getLsbD 5 = false ∧ 1 ≤ s.pool.freeDescs ∧ cellsFor 255 ≤ s.pool.freeCells ∧
      (withPool s 3 1).pool.freeCells < cellsFor 255 ∧ (withPool s 4 0).pool.freeDescs = 0 ∧
      timeArgs.cmd.operands.c.extractLsb' 0 2 = Kind.time.bits ∧ timeArgs.cmd.operands.c.getLsbD 6 = true ∧
      timeArgs.cmd.operands.g.toNat ≤ 4095 ∧ timeArgs.cmd.operands.c.getLsbD 5 = true ∧
      timeArgs.cmd.operands.d.toNat = (6 : Byte).toNat ∧ (ops 3 63 0x20 6).cmd.operands.c.getLsbD 5 = true ∧
      (ops 3 63 0x20 6).cmd.operands.c.extractLsb' 0 2 = Kind.data.bits := by
  unfold State.takesCommands; decide +kernel

theorem witness_PoolConfigChangesThreeValuesTogether :
    (ops 1024 512 1024).takesCommands ∧ (ops 1024 512 1024).cmd.operands.a.toNat ≤ 1024 ∧
      (ops 1024 512 1024).cmd.operands.b.toNat ≤ 512 ∧ (ops 1024 512 1024).cmd.operands.c.toNat ≤ 1024 ∧
      1024 < (ops 1025).cmd.operands.a.toNat ∧ 512 < (ops 0 513).cmd.operands.b.toNat ∧
      1024 < (ops 0 0 1025).cmd.operands.c.toNat := by
  unfold State.takesCommands; decide +kernel

theorem witness_BytesOutsideAPacket :
    (receiving State.reset .hunt).inReset = false ∧ (receiving State.reset .hunt).rxf.lineRx = true ∧
      (receiving State.reset .hunt).rxf.state = .hunt ∧ (receiving State.reset .discard).rxf.state = .discard := by
  decide +kernel

theorem witness_StartByteBeginsAPacket :
    (∀ f, (receiving State.reset f).inReset = false ∧ (receiving State.reset f).rxf.lineRx = true) ∧
      (receiving State.reset .hunt).rxf.state = .hunt ∧ (receiving State.reset .discard).rxf.state = .discard ∧
      (receiving State.reset (.header (threeBytes 1 2 3))).rxf.state = .header (threeBytes 1 2 3) :=
  ⟨fun _ => ⟨rfl, rfl⟩, rfl, rfl, rfl⟩

theorem witness_HeaderBytesAndHeaderErrors :
    let p (bytes : List Byte) : HeaderPacket := { threeBytes 0 0 0 with bytes := bytes }
    (receiving State.reset (.header (p [1]))).rxf.state = .header (p [1]) ∧ (p [1]).bytes.length = 1 ∧
      (p [1, 2]).bytes.length = 2 ∧ (p [0x4C, 0x81, 0x96]).bytes = [0x4C, 0x81, 0x96] ∧
      (0x9D : Byte) ≠ ~~~(0x4C + 0x81 + 0x96) ∧ (0xC0 : Byte).extractLsb' 6 2 = 3 ∧
      ((p [0x4C, 0x81, 0x96]).lineError || true) = true := by decide +kernel

theorem witness_HeaderCheckIsTheComplementOfTheSum :
    (0x4C : Byte).extractLsb' 6 2 ≠ 3 ∧ (0xBF : Byte).extractLsb' 6 2 ≠ 3 ∧
      (judgeHeader 0x4C 0x81 0x96 0x9C false).isSome = true ∧ (judgeHeader 0x4C 0x81 0x96 0x9D false).isSome = false := by
  decide

theorem witness_SentPacketIsReadBack :
    let e : TxEntry := { entry 40 none true 6 with insertTime := true, startStamp := some ⟨7, ⟨6000, 131⟩⟩ }
    let s := txAt (sending State.reset (.sending (attempt 3 1))) 3 [e]
    (entry 40 none true 6).insertTime = false ∧ 5 < (entry 40 none true 6).length.toNat ∧
      (entry 40 none true 6).payload[5]? = some 0x5A ∧ e.length = 6 ∧ e.startStamp.isSome = true ∧
      s.inReset = false ∧ s.txf.state = .sending (attempt 3 1) ∧ (s.txQueue 3).entries = [e] ∧
      s.transmitPins.sop = true ∧ State.reset.txf.state = .idle := by decide +kernel

theorem witness_BodyByteByPosition :
    let p (n : Nat) : BodyPacket := { inBody (headerFor 9 1) (route 2) (some []) with count := n }
    (receiving State.reset (.body (p 4))).rxf.state = .body (p 4) ∧ (p 4).count < 4 + (p 4).header.length.toNat ∧
      4 + (p 5).header.length.toNat ≤ (p 5).count ∧ (p 5).count < 6 + (p 5).header.length.toNat ∧
      (p 6).count < 6 + (p 6).header.length.toNat ∧ 6 + (p 7).header.length.toNat ≤ (p 7).count := by decide +kernel

theorem witness_OutcomeByByteCount :
    let p (n : Nat) (t : List Byte) : BodyPacket :=
      { inBody (headerFor 9 0) (route 2) none with count := n, trailer := t, crc := 0x1234 }
    (receiving State.reset (.header (threeBytes 0x4C 0x81 0x96))).rxf.state = .header (threeBytes 0x4C 0x81 0x96) ∧
      (threeBytes 0x4C 0x81 0x96).bytes = [0x4C, 0x81, 0x96] ∧
      (judgeHeader 0x4C 0x81 0x96 0x9C (false || false)).isSome = true ∧
      (receiving State.reset (.body (p 4 []))).rxf.state = .body (p 4 []) ∧
      (p 5 [0x12]).count < 6 + (p 5 []).header.length.toNat ∧ (p 6 []).count = 6 + (p 6 []).header.length.toNat ∧
      6 + (p 7 []).header.length.toNat < (p 7 []).count ∧ ((p 6 [0x12, 0x34]).outcome false).checkFail = false ∧
      ((p 6 [0x34, 0x12]).outcome false).checkFail = true := by decide +kernel

theorem witness_LineRxTurnsReceptionOnAndOff :
    let filling (a : Word) : State := receiving (ops a) (.body (inBody (headerFor 9 100) (route 2) (some [])))
    State.reset.rxf.lineRx = false ∧ (filling 0).takesCommands ∧ 1 < (ops 2).cmd.operands.a.toNat ∧
      1 < (ops 0 2).cmd.operands.b.toNat ∧ (ops 1 0).cmd.operands.a = 1 ∧ (ops 1 0).cmd.operands.b = 0 ∧
      (ops 1 1).cmd.operands.b = 1 ∧ (ops 0 0).cmd.operands.a = 0 ∧ (ops 0 0).fillingCells = none ∧
      (ops 0 1).cmd.operands.a = 0 ∧ (ops 0 1).cmd.operands.b = 1 ∧ (filling 0).fillingCells = some 2 := by
  unfold State.takesCommands; decide +kernel

/-- A channel entry with the sequence check on and a last sequence. -/
def checked (last : BitVec 4) (duplicate : Policy) : ChannelEntry :=
  { route 2 with config := { (route 2).config with sequenceCheck := true, duplicate := duplicate }
                 lastSequence := some last }

theorem witness_SequenceCheckAndHeadersWithoutAQueue :
    let s (e : ChannelEntry) : State :=
      receiving (State.reset.setChannel 12 e) (.header (threeBytes 0x0C 0x01 0x96))
    let h : Header := { headerFor 12 0x96 with sequence := 1 }
    (route 2).lastSequence = none ∧ (checked 15 .keep).config.sequenceCheck = true ∧
      (checked 15 .keep).lastSequence = some 15 ∧ (0 : BitVec 4).toNat = ((15 : BitVec 4).toNat + 1) % 16 ∧
      (14 : BitVec 4) ≠ 15 ∧ (14 : BitVec 4).toNat ≠ ((15 : BitVec 4).toNat + 1) % 16 ∧
      judgeHeader 0x0C 0x01 0x96 0x5C false = some h ∧ (s (route 2)).inReset = false ∧
      (State.reset.channel 12).config.action = .drop ∧
      (receiving State.reset (.header (threeBytes 0x0C 0x01 0x96))).rxf.lineRx = true ∧
      ((s (checked 1 .discard)).channel h.channel).config.action = .queue ∧
      ((s (checked 1 .discard)).channel h.channel).lastSequence = some h.sequence ∧
      ((s (checked 1 .discard)).channel h.channel).config.duplicate = .discard := by decide +kernel

theorem witness_GoodHeaderMeetsItsQueue :
    let q (st : RxQueueState) : RxQueue :=
      { RxQueue.reset with state := st, config := { RxQueue.reset.config with overrun := .hold, quota := 1 }
                           window := ⟨.atMarker, none⟩ }
    let s (r : RxQueue) : State :=
      receiving ((State.reset.setChannel 12 (route 2)).setRxQueue 2 r) (.header (threeBytes 0x0C 0x11 64))
    let h : Header := { headerFor 12 64 with sequence := 1, marker := true }
    let full (r : RxQueue) : RxQueue := { r with records := [record 1] }
    let grants (r : RxQueue) := rxReservationRefusal (s r).pool r.cellCount r.config.quota (cellsFor 64)
    (q .run).config.overrun = .hold ∧ (q .grace).state = .grace ∧ RxQueue.reset.config.overrun = .drop ∧
      judgeHeader 0x0C 0x11 64 (headerCheck 0x0C 0x11 64) false = some h ∧ (s (q .run)).inReset = false ∧
      ((s (q .run)).channel h.channel).config.action = .queue ∧
      ((s (q .run)).channel h.channel).config.sequenceCheck = false ∧ (checked 1 .keep).config.duplicate ≠ .discard ∧
      checkSequence (checked 1 .keep) h.sequence = .duplicate ∧ checkSequence (checked 2 .discard) h.sequence = .gap 14 ∧
      (checked 2 .discard).lastSequence ≠ some h.sequence ∧
      ((s (q .run)).channel h.channel).config.queue = 2 ∧ grants (q .run) = none ∧ grants (full (q .run)) = some .quota ∧
      (∀ st ∈ ([.off, .stopped .windowEnd, .held .grace, .run, .grace, .pending] : List RxQueueState),
        ((s (q st)).rxQueue 2).state = st ∧ ((s (q st)).rxQueue 2).flush = false) ∧
      ((s (q .pending)).rxQueue 2).window.start = .atMarker ∧ h.marker = true ∧
      ((s { q .run with flush := true }).rxQueue 2).flush = true := by decide +kernel

/-- A packet of 100 declared and 40 stored bytes, before the byte that ends it, for receive queue 2. -/
def ending (errored : Policy) : BodyPacket :=
  { inBody (headerFor 9 100) { route 2 with config := { (route 2).config with errored := errored } }
      (some (List.replicate 39 0)) with count := 43 }

theorem witness_EndOfAStoredPacket :
    let s (r : RxQueue) := receiving (State.reset.setRxQueue 2 r) (.body (ending .keep))
    let r (st : RxQueueState) (quota : Nat) : RxQueue :=
      { RxQueue.reset with state := st, config := { RxQueue.reset.config with quota := quota } }
    let rejects (p : BodyPacket) (f : RecordFlags) : Prop :=
      (f.checkFail = true ∧ p.snapshot.config.check = .discard) ∨
        ((f.lineError = true ∨ f.truncated = true ∨ f.overlong = true) ∧ p.snapshot.config.errored = .discard)
    (s (r .run 1)).rxf.state = .body (ending .keep) ∧ (ending .keep).storage = some (List.replicate 39 0) ∧
      (∀ early, rejects (ending .discard) ((ending .discard).outcome early)) ∧
      (∀ early, ¬rejects (ending .keep) ((ending .keep).outcome early)) ∧
      ((s (r .off 1)).rxQueue 2).state = .off ∧ ((s (r .run 1)).rxQueue 2).flush = false ∧
      (r .run 1).cellCount + cellsFor 39 ≤ (r .run 1).config.quota ∧
      (r .run 0).config.quota < (r .run 0).cellCount + cellsFor 39 := by decide +kernel

theorem witness_BatchAccountingOfACommit :
    let r (m : RxMode) (st : RxQueueState) (bc : Bool) : RxQueue :=
      { RxQueue.reset with state := st, config := { RxQueue.reset.config with mode := m, batchSize := 0xFFFF }
                           batchCount := 0xFFFE, batchComplete := bc }
    (r .continuous .pending false).state ≠ .run ∧ (r .continuous (.held .run) false).state ≠ .grace ∧
      (r .continuous .run false).state = .run ∧ (r .relayBatch .grace true).state = .grace ∧
      (r .singleBatch .run false).batchCount + 1 = (r .singleBatch .run false).config.batchSize ∧
      ({ r .singleBatch .run false with batchCount := 0xFFFD } : RxQueue).batchCount + 1 ≠ 0xFFFF ∧
      (r .relayBatch .run false).batchComplete = false ∧ (r .relayBatch .grace true).batchComplete = true := by decide

theorem witness_EndOfAPacketWithoutStorage :
    let p (e : ChannelEntry) : BodyPacket :=
      { inBody (headerFor 9 0) e none with count := 5, trailer := [0x12], crc := 0x1234 }
    let refs : ChannelEntry := { route 2 with config := { (route 2).config with reference := true } }
    let k : BodyPacket :=
      { inBody { headerFor 9 6 with kind := .time } refs none with
        count := 11, trailer := [0x12], crc := 0x1234, kept := [0, 0, 0x17, 0x70, 0, 0x83] }
    let e : RefEntry := ⟨12, ⟨0, ⟨0, 0⟩⟩, 0, 1⟩
    (p (checked 3 .keep)).storage = none ∧ (k.outcome true).truncated = true ∧
      ((k.takeByte 0x34 false).outcome false).truncated = false ∧
      (p (checked 3 .keep)).snapshot.config.reference = false ∧
      (p (checked 3 .keep)).snapshot.config.sequenceCheck = true ∧
      (((p (checked 3 .keep)).takeByte 0x34 false).outcome false).checkFail = false ∧
      (((p (checked 3 .keep)).takeByte 0x35 false).outcome false).checkFail = true ∧
      (p (checked 3 .keep)).verdict ≠ .duplicateDropped ∧ (p (route 2)).snapshot.config.sequenceCheck = false ∧
      (receiving State.reset (.body k)).rxf.state = .body k ∧ k.storage = none ∧
      k.snapshot.config.sequenceCheck = false ∧ k.snapshot.config.reference = true ∧ k.header.kind = .time ∧
      k.header.length.toNat = 6 ∧ (k.takeByte 0x34 false).kept = [0, 0, 0x17, 0x70, 0, 0x83] ∧
      ((k.takeByte 0x34 false).outcome false).checkFail = false ∧
      ((k.takeByte 0x34 false).outcome false).lineError = false ∧
      ((k.takeByte 0x34 false).outcome false).overlong = false ∧
      (List.replicate 7 e).length < 8 ∧ 8 ≤ (List.replicate 8 e).length := by decide +kernel

theorem witness_ChannelTableCommands :
    (ops 63 1 15 1 0 1 1 0).takesCommands ∧ (ops 63 1 15 1 0 1 1 0).cmd.operands.a.toNat = (63 : ChannelId).val ∧
      (let o := (ops 63 1 15 1 0 1 1 0).cmd.operands
       o.b = 1 ∧ o.c.toNat = (15 : RxQueueId).val ∧ o.d = 1 ∧ o.e = 0 ∧ o.f = 1 ∧ o.g = 1 ∧ o.h = 0) ∧
      1 < (ops 63 2).cmd.operands.b.toNat ∧ 15 < (ops 63 0 16).cmd.operands.c.toNat ∧
      1 < (ops 63 0 0 2).cmd.operands.d.toNat ∧ 1 < (ops 63 0 0 0 0 0 0 2).cmd.operands.h.toNat ∧
      (ops 0 0).cmd.operands.b = 0 ∧ (ops 0 1).cmd.operands.b = 1 ∧ 1 < (ops 0 2).cmd.operands.b.toNat ∧
      (ops 0 15).cmd.operands.b.toNat = (15 : BitVec 4).toNat ∧ 15 < (ops 0 16).cmd.operands.b.toNat := by
  unfold State.takesCommands; decide +kernel

theorem witness_ChReadGivesBackWhatChWriteTakes :
    (ops 63).takesCommands ∧ (ops 63).cmd.operands.a.toNat = (63 : ChannelId).val := by
  unfold State.takesCommands; decide +kernel

theorem witness_RxConfigAndRxWindow :
    let c := ops 15 2 1 1 1024 512
    let w := ops 15 0x11 0 500 4095 0 501 0
    c.takesCommands ∧ c.cmd.operands.a.toNat = (15 : RxQueueId).val ∧ c.cmd.operands.b = 2 ∧ c.cmd.operands.c = 1 ∧
      c.cmd.operands.d = 1 ∧ c.cmd.operands.e.toNat = 1024 ∧ c.cmd.operands.f.toNat = 512 ∧
      (c.rxQueue 15).state = .off ∧ (c.rxQueue 15).records = [] ∧ ((rxAt c 15 .off [record 1]).rxQueue 15).records ≠ [] ∧
      ((rxAt c 15 .run).rxQueue 15).state ≠ .off ∧ 2 < (ops 0 3).cmd.operands.b.toNat ∧
      1024 < (ops 0 0 1 0 1025 1).cmd.operands.e.toNat ∧ 512 < (ops 0 0 1 0 0 513).cmd.operands.f.toNat ∧
      w.takesCommands ∧ w.cmd.operands.b.extractLsb' 0 2 = 1 ∧ w.cmd.operands.e.toNat ≤ 4095 ∧
      w.cmd.operands.b.getLsbD 4 = true ∧ w.cmd.operands.h.toNat ≤ 4095 ∧
      (⟨500, 4095⟩ : LinkTime).before ⟨501, 0⟩ = true ∧ (⟨500, 4095⟩ : LinkTime).before ⟨500, 4095⟩ = false ∧
      (ops 0 3).cmd.operands.b.extractLsb' 0 2 = 3 ∧ 4095 < (ops 0 1 0 0 4096).cmd.operands.e.toNat ∧
      4095 < (ops 0 0x10 0 0 0 0 0 4096).cmd.operands.h.toNat ∧ (ops 0 0).cmd.operands.b.extractLsb' 0 2 = 0 ∧
      (ops 0 2).cmd.operands.b.extractLsb' 0 2 = 2 ∧ (ops 0 0).cmd.operands.b.getLsbD 4 = false := by
  unfold State.takesCommands; decide +kernel

theorem witness_RxEnableTakesTheStartCondition :
    let s (w : RxWindow) := (withOps (atTime State.reset 10 0) 15).setRxQueue 15 { RxQueue.reset with window := w }
    (s ⟨.now, none⟩).takesCommands ∧ (s ⟨.now, none⟩).cmd.operands.a.toNat = (15 : RxQueueId).val ∧
      ((rxAt (ops 15) 15 .pending).rxQueue 15).state ≠ .off ∧ ((s ⟨.now, none⟩).rxQueue 15).state = .off ∧
      (s ⟨.atTime ⟨10, 0⟩, none⟩).time.now.before ⟨10, 0⟩ = false ∧
      (s ⟨.atTime ⟨10, 1⟩, none⟩).time.now.before ⟨10, 1⟩ = true ∧
      ((s ⟨.atMarker, some ⟨10, 0⟩⟩).rxQueue 15).window.stop = some ⟨10, 0⟩ := by
  unfold State.takesCommands; decide +kernel

theorem witness_RxDisableRearmAndResume :
    let s (st : RxQueueState) := rxAt (ops 15) 15 st
    (s .off).takesCommands ∧ (s .off).cmd.operands.a.toNat = (15 : RxQueueId).val ∧
      ((s (.stopped .relayMissed)).rxQueue 15).state = .stopped .relayMissed ∧
      ((s (.stopped .windowEnd)).rxQueue 15).state ≠ .stopped .batchDone ∧
      ((s (.stopped .windowEnd)).rxQueue 15).state ≠ .stopped .relayMissed ∧
      ((s (.held .run)).rxQueue 15).state = .held .run ∧ ((s (.held .grace)).rxQueue 15).state = .held .grace ∧
      (∀ b : Capturing, ((s .run).rxQueue 15).state ≠ .held b) := by
  unfold State.takesCommands
  refine ⟨by decide +kernel, by decide +kernel, by decide +kernel, by decide +kernel, by decide +kernel,
    by decide +kernel, by decide +kernel, fun b => ?_⟩
  cases b <;> decide +kernel

theorem witness_RxAckBatchClearsBatchComplete :
    let s (st : RxQueueState) := rxAt (ops 15) 15 st
    (ops 16).takesCommands ∧ 15 < (ops 16).cmd.operands.a.toNat ∧ (s .grace).takesCommands ∧
      (s .grace).cmd.operands.a.toNat = (15 : RxQueueId).val ∧ ((s .grace).rxQueue 15).state = .grace ∧
      ((s (.held .grace)).rxQueue 15).state = .held .grace ∧ ((s .off).rxQueue 15).state ≠ .grace ∧
      ((s .off).rxQueue 15).state ≠ .held .grace ∧ ((s .off).rxQueue 15).batchComplete = false := by
  unfold State.takesCommands; decide +kernel

theorem witness_RxFlushRemovesHeadFirst :
    let s := rxAt (ops 15) 15 .run [record 1, record 2]
    let f (rs : List RxRecord) : State :=
      (busyWith State.reset (.rxFlush 15)).setRxQueue 15 { RxQueue.reset with flush := true, records := rs }
    s.takesCommands ∧ s.cmd.operands.a.toNat = (15 : RxQueueId).val ∧ (s.rxQueue 15).records ≠ [] ∧
      s.window.record = none ∧ (opened s 15 0).window.record = some ⟨15, 0⟩ ∧ ((ops 15).rxQueue 15).records = [] ∧
      (f [record 1]).inReset = false ∧ ((f [record 1]).rxQueue 15).flush = true ∧
      ((f [record 1]).rxQueue 15).records = [record 1] ∧
      ((f [record 1, record 2]).rxQueue 15).records = [record 1, record 2] := by
  unfold State.takesCommands; decide +kernel

theorem witness_OpenReleaseAndClose :
    let s := rxAt (ops 15) 15 .run [record 1]
    s.takesCommands ∧ s.cmd.operands.a.toNat = (15 : RxQueueId).val ∧ s.window.record = none ∧
      (s.rxQueue 15).records = [record 1] ∧ ((ops 15).rxQueue 15).records = [] ∧
      (opened s 15 0).window.record = some ⟨15, 0⟩ ∧ ((opened s 15 0).rxQueue 15).records = [record 1] := by
  unfold State.takesCommands; decide +kernel

theorem witness_DataPortReadsAndWrites :
    let s (n : Nat) := opened (rxAt State.reset 15 .run [record 3]) 15 n
    (s 0).inReset = false ∧ State.reset.window.record = none ∧ (s 0).window.record = some ⟨15, 0⟩ ∧
      ((s 0).rxQueue 15).records = [record 3] ∧ (record 3).payload.drop 1 = [0xA5, 0xA5] ∧
      (record 3).payload.drop 2 = [0xA5] ∧ (record 3).payload.length ≤ 3 ∧ State.reset.staging.record = none ∧
      (staging State.reset (staged 3 1)).staging.record = some (staged 3 1) ∧
      (staged 3 1).payload.length + 2 ≤ (staged 3 1).length.toNat ∧
      (staged 3 2).payload.length + 1 = (staged 3 2).length.toNat ∧
      (staged 3 3).length.toNat ≤ (staged 3 3).payload.length := by decide +kernel

theorem witness_HostPortWrites :
    State.reset.inReset = false ∧ 1 ≤ (0x01 : BitVec 6).toNat ∧ (0x08 : BitVec 6).toNat ≤ 8 ∧
      hasOwnRow 0x09 = false ∧ 8 < (0x09 : BitVec 6).toNat ∧ hasOwnRow 0x3F = false ∧
      (⟨.atTime ⟨7, 1⟩, some ⟨7, 2⟩⟩ : RxWindow).stop = some ⟨7, 2⟩ ∧ RxQueue.reset.window.stop = none ∧
      -32768 ≤ State.reset.time.slew ∧ State.reset.time.slew ≤ 32767 ∧
      ∀ T, (⟨.atMarker, none⟩ : RxWindow).start ≠ .atTime T :=
  ⟨by decide, by decide, by decide, by decide, by decide, by decide, by decide, by decide, by decide, by decide, nofun⟩

theorem witness_TxSubmitJoinsTheTail :
    let one (e : TxEntry) : State := txAt (sending State.reset (.sending (attempt 0 1))) 1 [e]
    let s := staging (one (entry 5 (some ⟨8000, 0⟩) false)) (staged 3 3 (some ⟨8000, 0⟩))
    let full := staging (State.reset.setTxQueue 1
      { TxQueue.reset with config := { TxQueue.reset.config with depth := 1 }, entries := [entry 5 none true] }) (staged 0 0)
    let free := staging (sending State.reset .idle) (staged 0 0)
    let behind := staging (txAt (sending State.reset .idle) 1 [entry 5 (some ⟨8000, 0⟩) false])
      (staged 3 3 (some ⟨8000, 0⟩))
    State.reset.staging.record = none ∧ s.takesCommands ∧ s.staging.record = some (staged 3 3 (some ⟨8000, 0⟩)) ∧
      (staged 3 2).payload.length < (staged 3 2).length.toNat ∧ (staged 3 3).length.toNat ≤ (staged 3 3).payload.length ∧
      (full.txQueue 1).config.depth ≤ (full.txQueue 1).entries.length ∧
      (s.txQueue 1).entries.length < (s.txQueue 1).config.depth ∧
      (⟨7999, 4095⟩ : LinkTime).before ⟨8000, 0⟩ = true ∧ (⟨8000, 0⟩ : LinkTime).before ⟨8000, 0⟩ = false ∧
      s.TransmitterHolds ∧ free.txf.state = .idle ∧ free.txf.lineTx = true ∧ free.NothingToSelect ∧
      (free.txQueue 1).entries = [] ∧ (free.txQueue 1).paused = false ∧ (free.txQueue 1).flush = false ∧
      (staged 0 0).launch = none ∧ behind.takesCommands ∧ behind.txf.state = .idle ∧
      (behind.txQueue 1).entries.length < (behind.txQueue 1).config.depth := by
  unfold State.takesCommands State.TransmitterHolds State.NothingToSelect; decide +kernel

theorem witness_TxAbandonReturnsTheStagingRecord :
    (ops 0).takesCommands ∧ (ops 0).staging.record = none ∧ (staging (ops 0) (staged 255 0)).takesCommands ∧
      (staging (ops 0) (staged 255 0)).staging.record = some (staged 255 0) := by
  unfold State.takesCommands; decide +kernel

theorem witness_PauseStartAndLineTx :
    let s := txAt (sending (ops 3) .idle) 3 [entry 1 none true]
    s.takesCommands ∧ s.cmd.operands.a.toNat = (3 : TxQueueId).val ∧
      (sending (ops 3) (.waitingLine 0 false false)).TransmitterHolds ∧ s.txf.state = .idle ∧ s.txf.lineTx = true ∧
      (s.txQueue 3).entries = [entry 1 none true] ∧ (entry 1 none true).due = true ∧ (entry 1 none true).launch = none ∧
      (s.txQueue 3).flush = false ∧ (s.txQueue 3).paused = false ∧ (∀ u, u ≠ 3 → (s.txQueue u).dueHead = none) ∧
      1 < (ops 2).cmd.operands.a.toNat ∧ (ops 0).cmd.operands.a = 0 ∧ (ops 1).cmd.operands.a = 1 ∧
      (∀ u, ((ops 1).txQueue u).dueHead = none) := by
  unfold State.takesCommands State.TransmitterHolds; decide +kernel

theorem witness_TxConfigAndTxCancel :
    let c := ops 3 64 0xFFFF 1 7
    let wait (es : List TxEntry) := txAt (sending (ops 3 11) (.waitingLine 3 false false)) 3 es
    c.takesCommands ∧ c.cmd.operands.a.toNat = (3 : TxQueueId).val ∧ c.cmd.operands.b.toNat = 64 ∧
      c.cmd.operands.d = 1 ∧ c.cmd.operands.e.toNat = 7 ∧ (c.txQueue 3).entries = [] ∧
      64 < (ops 3 65).cmd.operands.b.toNat ∧ (ops 3 0).cmd.operands.b = 0 ∧ 7 < (ops 3 1 0 0 8).cmd.operands.e.toNat ∧
      (∀ e ∈ ((wait [entry 12 none true]).txQueue 3).entries, e.tag ≠ 11) ∧
      ((wait [entry 11 none true]).txQueue 3).entries = [] ++ entry 11 none true :: [] ∧
      (sending (ops 3 11) (.sending (attempt 3 1))).txf.state = .sending (attempt 3 1) ∧
      ((wait [entry 12 none true, entry 11 none true]).txQueue 3).entries =
        [entry 12 none true] ++ entry 11 none true :: [] ∧
      (wait [entry 12 none true, entry 11 none true]).TransmitterHolds ∧
      (wait [entry 11 none true]).txf.state = .waitingLine 3 false false ∧
      (wait [entry 11 none true]).NothingFollows 3 [] := by
  unfold State.takesCommands State.TransmitterHolds State.NothingFollows; decide +kernel

theorem witness_TxFlushRemovesWhatIsNotSending :
    let es := [entry 1 none true, entry 2 none true]
    let s := txAt (sending (ops 3) (.sending (attempt 3 1))) 3 es
    let f (st : TxFramerState) (es : List TxEntry) : State :=
      (sending (busyWith State.reset (.txFlush 3)) st).setTxQueue 3 { TxQueue.reset with flush := true, entries := es }
    s.takesCommands ∧ s.cmd.operands.a.toNat = (3 : TxQueueId).val ∧ (s.txQueue 3).entries ≠ [] ∧
      (s.txQueue 3).entries.length ≠ 1 ∧ ((ops 3).txQueue 3).entries = [] ∧
      (f .idle es).inReset = false ∧ ((f .idle es).txQueue 3).flush = true ∧
      (f .idle es).cmd.running = some (.txFlush 3) ∧ ((f .idle es).txQueue 3).entries = [] ++ entry 1 none true :: [entry 2 none true] ∧
      (∀ u, u ≠ 3 → ((f .idle es).txQueue u).dueHead = none) ∧
      (f (.sending (attempt 3 1)) es).txf.state = .sending (attempt 3 1) ∧ (attempt 3 1).queue = 3 ∧
      ((f (.sending (attempt 3 1)) es).txQueue 3).entries = [entry 1 none true] ++ entry 2 none true :: [] ∧
      (f (.sending (attempt 3 1)) es).TransmitterHolds ∧ (f (.sending (attempt 3 1)) es).headWaiting 3 = false ∧
      (f (.waitingLine 3 false false) es).headWaiting 3 = true ∧ ((f .idle []).txQueue 3).entries = [] ∧
      ((f (.sending (attempt 3 1)) [entry 1 none true]).txQueue 3).entries.length = 1 := by
  unfold State.takesCommands State.TransmitterHolds; decide +kernel

theorem witness_SelectionPicksTheEarliestDueHead :
    let s (now : BitVec 12) (late : LatePolicy) : State := (sending (atTime State.reset 700 now) .idle).setTxQueue 3
      { TxQueue.reset with config := { TxQueue.reset.config with late := late }, entries := [entry 1 (some ⟨700, 0⟩) true] }
    (s 0 .sendLate).selects = some 3 ∧ (s 0 .dropLate).selects = some 3 ∧ (s 1 .dropLate).selects = some 3 ∧
      ((⟨700, 0⟩ : LinkTime).addTicks 0).before (s 0 .dropLate).time.now = false ∧
      ((⟨700, 0⟩ : LinkTime).addTicks 0).before (s 1 .dropLate).time.now = true ∧
      ((s 0 .sendLate).txQueue 3).dueHead = some (entry 1 (some ⟨700, 0⟩) true) ∧
      State.reset.selects = none := by decide +kernel

theorem witness_LaunchAndDeadlineWatchers :
    let e := entry 1 (some ⟨700, 0⟩) false
    let s := txAt (atTime State.reset 700 0) 3 [e]
    let late := (sending (atTime State.reset 700 1) (.waitingLine 3 true false)).setTxQueue 3 { TxQueue.reset with entries := [e] }
    let last (now : LinkTime) := txAt (sending (timed { TimeBase.reset with now := now }) (.waitingLine 3 true true)) 3
      [entry 1 (some ⟨4294967295, 4095⟩) true]
    s.inReset = false ∧ s.TransmitterHolds ∧ s.NoTxFlush ∧ (s.txQueue 3).entries[(0 : Fin 64).val]? = some e ∧
      e.launch = some ⟨700, 0⟩ ∧ e.due = false ∧ s.time.now.before ⟨700, 0⟩ = false ∧ late.inReset = false ∧
      late.NoTxFlush ∧ late.txf.state = .waitingLine 3 true false ∧ (late.txQueue 3).entries = e :: [] ∧
      ((⟨700, 0⟩ : LinkTime).addTicks (late.txQueue 3).config.tolerance).before late.time.now = true ∧
      late.NothingFollows 3 [] ∧
      (last ⟨4294967295, 4095⟩).inReset = false ∧ (last ⟨4294967295, 4095⟩).NoTxFlush ∧
      (last ⟨4294967295, 4095⟩).txf.state = .waitingLine 3 true true ∧
      ((last ⟨4294967295, 4095⟩).txQueue 3).entries = [entry 1 (some ⟨4294967295, 4095⟩) true] ∧
      (⟨4294967295, 4095⟩ : LinkTime).addTicks ((last ⟨4294967295, 4095⟩).txQueue 3).config.tolerance =
        ⟨4294967295, 4095⟩ ∧
      (last ⟨4294967295, 4095⟩).time.now.before ⟨4294967295, 4095⟩ = false ∧
      (last ⟨4294967295, 4094⟩).time.now.before ⟨4294967295, 4095⟩ = true ∧
      ((⟨700, 0⟩ : LinkTime).addTicks (late.txQueue 3).config.tolerance).before ⟨700, 0⟩ = false ∧
      s.txf.state ≠ .waitingLine 3 true false ∧ State.reset.reports.list.length < 32 ∧
      32 ≤ (List.replicate 32 (reportOf 3 e .sent)).length := by
  unfold State.TransmitterHolds State.NoTxFlush State.NothingFollows; decide +kernel

theorem witness_LtrdyOffersAndAccepts :
    let e := entry 1 none true 10
    let s (st : TxFramerState) := txAt (sending State.reset st) 3 [e]
    (s .idle).inReset = false ∧ (s .idle).txf.state = .idle ∧ (s (.waitingLine 3 false false)).NoTxFlush ∧
      (s (.waitingLine 3 false false)).txf.state = .waitingLine 3 false false ∧ ((s .idle).txQueue 3).entries = e :: [] ∧
      (s (.sending (attempt 3 1))).txf.state = .sending (attempt 3 1) ∧ (attempt 3 1).cut = false ∧
      (attempt 3 1).position = 1 ∧ 1 < (attempt 3 14).position ∧ (attempt 3 14).position ≤ 4 + e.length.toNat ∧
      (attempt 3 15).position = 5 + e.length.toNat ∧ (attempt 3 16).position = 6 + e.length.toNat ∧
      (s (.sending (attempt 3 16))).NothingFollows 3 [] ∧
      (busyWith (s (.waitingLine 3 false false)) (.txFlush 3)).cmd.running = some (.txFlush 3) ∧
      (after .ltrdy (busyWith (s (.waitingLine 3 false false)) (.txFlush 3))).cmd.running = none := by
  unfold State.NoTxFlush State.NothingFollows; decide +kernel

theorem witness_LtabtRetriesOrAborts :
    let e (n : Nat) : TxEntry := { entry 1 none true with attempts := n }
    let s (n : Nat) (st : TxFramerState) := txAt (sending State.reset st) 3 [e n]
    (s 1 .idle).inReset = false ∧ (s 1 .idle).txf.state = .idle ∧
      (s 1 (.waitingLine 3 true false)).txf.state = .waitingLine 3 true false ∧
      (s 3 (.sending (attempt 3 9))).txf.state = .sending (attempt 3 9) ∧ (attempt 3 9).cut = false ∧
      (s 3 (.sending (attempt 3 9))).NoTxFlush ∧ ((s 3 .idle).txQueue 3).entries = e 3 :: [] ∧
      (e 3).attempts ≤ ((s 3 .idle).txQueue 3).config.retryLimit ∧ (e 3).launch = none ∧
      (s 3 .idle).txf.lineTx = true ∧ ((s 4 .idle).txQueue 3).config.retryLimit < (e 4).attempts ∧
      (s 4 (.sending (attempt 3 9))).NothingFollows 3 [] := by
  unfold State.NoTxFlush State.NothingFollows; decide +kernel

/-- A SOFT_RESET is accepted with a filling record, a staging record and a waiting entry held. -/
def returning (cells descs : Nat) : State :=
  receiving (staging (txAt (sending (withPool State.reset cells descs) (.waitingLine 3 false false)) 3 [entry 1 none true])
    (staged 3 1)) (.body (inBody (headerFor 9 100) (route 5) (some [])))

theorem witness_SoftResetAtItsAcceptance :
    (returning 1019 508).takesCommands ∧ (returning 1019 508).fillingCells = some 2 ∧
      ((returning 1019 508).staging.record.map StagingRecord.cells) = some 1 ∧
      ((returning 1019 508).txQueue 3).entries.head? = some (entry 1 none true) ∧ (entry 1 none true).cells = 1 ∧
      1019 + 2 + 1 + 1 ≠ 1024 ∧ (withPool State.reset 1024 511).takesCommands ∧
      (withPool State.reset 1024 511).pool.freeDescs ≠ 512 := by
  unfold State.takesCommands; decide +kernel

theorem witness_SoftResetRemovalsAndCompletion :
    let rx (cells descs : Nat) := busyWith (rxAt (withPool State.reset cells descs) 15 .off [record 5]) .softReset
    let tx (cells descs : Nat) (st : TxFramerState) (es : List TxEntry) :=
      busyWith (txAt (sending (withPool State.reset cells descs) st) 3 es) .softReset
    let cut : Attempt := { attempt 3 9 with cut := true }
    let e := entry 1 none true
    State.reset.takesCommands ∧ State.reset.pool.freeCells = 1024 ∧ State.reset.pool.freeDescs = 512 ∧
      State.reset.fillingCells = none ∧ State.reset.txf.state = .idle ∧ (∀ u, (State.reset.txQueue u).entries = []) ∧
      (returning 1020 509).takesCommands ∧ (returning 1020 509).pool.freeCells + 2 + 1 + 1 = 1024 ∧
      (returning 1020 509).pool.freeDescs + 1 + 1 + 1 = 512 ∧
      (∀ u, (if (returning 1020 509).headWaiting u then ((returning 1020 509).txQueue u).entries.tail
             else ((returning 1020 509).txQueue u).entries) = []) ∧
      (rx 1023 511).inReset = false ∧ (rx 1023 511).cmd.running = some .softReset ∧
      ((rx 1023 511).rxQueue 15).records = [record 5] ∧ (rx 1023 511).pool.freeCells + (record 5).cells = 1024 ∧
      (rx 1022 510).pool.freeCells + (record 5).cells ≠ 1024 ∧ (∀ u, ((rx 1023 511).txQueue u).entries = []) ∧
      ((tx 1023 511 .idle [e]).txQueue 3).entries = [e] ∧ (tx 1023 511 .idle [e]).txf.state.inFlightQueue ≠ some 3 ∧
      (tx 1023 511 .idle [e]).pool.freeCells + e.cells = 1024 ∧
      (∀ v, v ≠ 3 → ((tx 1023 511 .idle [e]).txQueue v).entries = []) ∧
      ((tx 1022 510 (.sending cut) [e, e]).txQueue 3).entries = [e, e] ∧
      (tx 1022 510 (.sending cut) [e, e]).txf.state = .sending cut ∧ cut.cut = true ∧
      ((tx 1023 511 (.sending cut) [e]).txQueue 3).entries = [e] := by
  unfold State.takesCommands; decide +kernel

/-- A state with something of every holder: an open record, a filling packet, staging, and an entry being sent. -/
def loaded : State :=
  receiving (staging (opened (rxAt (txAt (sending (withPool State.reset 1018 508) (.sending (attempt 0 3))) 0
    [{ entry 1 none true with attempts := 1 }]) 5 .run [record 70]) 5 2) (staged 3 1))
    (.body (inBody (headerFor 9 100) (route 5) (some [])))

/-- It meets the premises of the statements about every step, and a step can be taken from it. -/
theorem witness_EveryStep :
    loaded.PoolConserved ∧ loaded.FillingFits ∧ loaded.time.InRange ∧ loaded.ListsBounded ∧ loaded.QuotasKept ∧
      loaded.DepthsKept ∧ loaded.FlushFlagsAgree ∧ loaded.NothingToSelect ∧ loaded.InFlightIsHead := by
  refine ⟨by unfold State.PoolConserved; decide +kernel, ?_, ?_, by unfold State.ListsBounded; decide +kernel,
    by unfold State.QuotasKept; decide +kernel, by unfold State.DepthsKept; decide +kernel,
    by unfold State.FlushFlagsAgree; decide +kernel, by unfold State.NothingToSelect; decide +kernel,
    by unfold State.InFlightIsHead; decide +kernel⟩
  · refine ⟨by decide, ?_⟩
    intro bytes h
    cases h
    decide
  · refine ⟨by decide, by decide, by decide, by decide, by decide, by decide, ?_⟩
    intro d h
    cases h

/-- The remaining premises of the statements about every step. -/
theorem witness_EveryStep_queues :
    loaded.BatchesAgree ∧ loaded.LaunchesOrdered ∧ loaded.AttemptsBounded ∧ loaded.OpenIsHead ∧
      loaded.WatchersAhead ∧ loaded.SoftResetQuiet := by
  refine ⟨?_, ?_, ?_, ?_, ?_, ?_⟩
  · have h : ∀ q, (loaded.rxQueue q).state = .off ∨
        ((loaded.rxQueue q).state = .run ∧ (loaded.rxQueue q).batchComplete = false) := by decide +kernel
    intro q
    unfold RxQueue.BatchAgrees
    obtain h | ⟨h, hb⟩ := h q
    · simp [h]
    · simp [h, hb]
  · intro t
    have h : ((loaded.txQueue t).entries).length ≤ 1 := by revert t; decide +kernel
    match hl : (loaded.txQueue t).entries, h with
    | [], _ => exact List.Pairwise.nil
    | [e], _ => exact List.pairwise_singleton _ e
  · intro t
    have h : (loaded.txQueue t).config.retryLimit ≤ 7 ∧ (loaded.txQueue t).entries.tail = [] ∧
        ((loaded.txQueue t).entries.head?.all fun e => decide (e.attempts ≤ 1)) = true ∧
        (loaded.txQueue t).config.retryLimit = 3 := by revert t; decide +kernel
    refine ⟨h.1, by simp [h.2.1], ?_⟩
    intro e he
    have ha := h.2.2.1
    rw [he] at ha
    have : e.attempts ≤ 1 := by simpa using ha
    omega
  · intro w h
    have : w = ⟨5, 2⟩ := by
      have hw : loaded.window.record = some ⟨5, 2⟩ := rfl
      rw [hw] at h
      exact (Option.some.inj h).symm
    subst this
    decide +kernel
  · have h1 : ∀ q, (loaded.rxQueue q).startWatched = none := by decide +kernel
    have h2 : ∀ q, (loaded.rxQueue q).stopWatched = none := by decide +kernel
    have h3 : ∀ t, (loaded.txQueue t).entries.all TxEntry.due = true := by decide +kernel
    refine ⟨?_, ?_, ?_, ?_⟩
    · intro q T h
      simp [h1 q] at h
    · intro q T h
      simp [h2 q] at h
    · intro t e he T _ hd
      simp [List.all_eq_true.mp (h3 t) e he] at hd
    · intro t e _ h
      cases h
  · refine ⟨fun h => ?_, fun a ha hc => ?_⟩
    · exact absurd h (by decide +kernel)
    · have : (loaded.txf.state = .sending (attempt 0 3)) := rfl
      rw [this] at ha
      cases ha
      cases hc

/-- A step taken from that state. -/
theorem witness_EveryStep_goes_on :
    ∃ t, step { loaded with pending := [.lineByte 0x11 false true false] } = .next t ∧ t.rxf.state = .hunt ∧
      t.pending = [] :=
  ⟨_, rfl, by decide +kernel, by decide +kernel⟩

end Sys2Proof.Tests
end

section
/-! Proofs about the cell pool and the descriptors (02): the receive reservation (R20), and what hardware reset leaves
free and held (R31). -/

namespace Sys2Proof.Machine

/-! ### The receive reservation (R20) -/

/-- Only an empty payload asks for no cells (R19). -/
theorem cellsFor_eq_zero {n : Nat} : cellsFor n = 0 ↔ n = 0 := by
  simp only [cellsFor, Config.cellBytes]; omega

/-- R20 as the rule reads: the three conditions of a reservation for a declared length, with signed differences, and
the first that fails. -/
theorem rxReservationRefusal_eq_firstFailing (p : Pool) (queueCells quota : Nat) (L : Byte) :
    rxReservationRefusal p queueCells quota (cellsFor L.toNat) =
      if ¬ (p.freeDescs : Int) - 1 ≥ p.descReserve then some .noDescriptor
      else if ¬ (L = 0 ∨ queueCells + cellsFor L.toNat ≤ quota) then some .quota
      else if ¬ (L = 0 ∨ (p.freeCells : Int) - cellsFor L.toNat ≥ p.cellReserve) then some .noCells
      else none := by
  have hzero : cellsFor L.toNat = 0 ↔ L = 0 := cellsFor_eq_zero.trans (BitVec.toNat_inj (y := 0))
  have hdescs : p.freeDescs < p.descReserve + 1 ↔ ¬ (p.freeDescs : Int) - 1 ≥ p.descReserve := by omega
  have hcells : p.freeCells < p.cellReserve + cellsFor L.toNat ↔
      ¬ (p.freeCells : Int) - cellsFor L.toNat ≥ p.cellReserve := by omega
  simp only [rxReservationRefusal, ne_eq, hzero, hdescs, hcells, not_or, not_le]

/-- The verdict on a packet its queue admits is ADMITTED exactly when the pool does not refuse the reservation (R20,
R61). -/
theorem State.reserveFor_admitted_iff (s : State) (q : RxQueueId) (h : Header) :
    (s.reserveFor q h).2 = .admitted ↔
      rxReservationRefusal s.pool (s.rxQueue q).cellCount (s.rxQueue q).config.quota (cellsFor h.length.toNat) =
        none := by
  unfold State.reserveFor
  dsimp only
  split
  · next hgranted => simp [hgranted]
  · next hrefused => simp [hrefused]

/-- Settles O15, by the checks in their order: each condition that holds leads to the next. -/
theorem receiveReservationConditions : Obligations.ReceiveReservationConditions := by
  intro s q h c hc descs quota cells answer
  subst hc
  have hanswer : answer = if ¬descs then some .noDescriptor else if ¬quota then some .quota
      else if ¬cells then some .noCells else none :=
    rxReservationRefusal_eq_firstFailing s.pool _ _ h.length
  have hverdict : (s.reserveFor q h).2 = .admitted ↔ answer = none := s.reserveFor_admitted_iff q h
  rw [hverdict, hanswer]
  by_cases hdescs : descs
  · by_cases hquota : quota
    · by_cases hcells : cells <;> simp [hdescs, hquota, hcells]
    · simp [hdescs, hquota]
  · simp [hdescs]

/-! ### Hardware reset (R31, R96, R129, R174) -/

/-- After hardware reset no holder has a cell (R18, R31). -/
@[simp] theorem State.hardwareReset_heldCells (held : Bool) (l : List Instr) :
    (State.hardwareReset held l).heldCells = 0 := by
  simp [State.heldCells, State.hardwareReset, State.fillingCells, RxFramer.reset, Staging.reset,
    RxQueue.cellCount, RxQueue.reset, TxQueue.cellCount, TxQueue.reset]

/-- After hardware reset no holder has a descriptor (R18, R31). -/
@[simp] theorem State.hardwareReset_heldDescs (held : Bool) (l : List Instr) :
    (State.hardwareReset held l).heldDescs = 0 := by
  simp [State.heldDescs, State.hardwareReset, State.fillingCells, RxFramer.reset, Staging.reset,
    RxQueue.recordCount, RxQueue.reset, State.entryTotal, TxQueue.reset]

/-- Operand words that are all 0 read 0 at every number (R165). -/
@[simp] theorem Operands.zero_get (n : Nat) : Operands.zero.get n = 0 := by
  unfold Operands.get
  split <;> rfl

/-- Settles O4: hardware reset and power-up lead to `State.hardwareReset`. The tables and queues hold their reset entry
at every index, the holders hold nothing, and every other block is its reset record; the pins are released because
RESET_N is asserted. -/
theorem hardwareResetOfEveryBlock : Obligations.HardwareResetOfEveryBlock :=
  ⟨fun s => ⟨State.hardwareReset true s.pending, rfl, rfl, rfl,
    -- the pool and the holders
    rfl, rfl, State.hardwareReset_heldCells true s.pending, State.hardwareReset_heldDescs true s.pending,
    -- receive queues, staging, transmit queues, reports
    State.hardwareReset_rxQueue true s.pending, rfl, State.hardwareReset_txQueue true s.pending, rfl,
    -- the host port, the time base and the receive framer
    rfl, rfl, rfl, rfl, rfl, rfl,
    -- the channel table and the transmit sequence table
    State.hardwareReset_channel true s.pending, State.hardwareReset_txSequenceOf true s.pending,
    -- the read window, the transmit framer and the command unit
    rfl, rfl, rfl, rfl, rfl, rfl, fun n => ⟨Operands.zero_get n, Operands.zero_get n⟩,
    -- the events and the two pins
    rfl, rfl, rfl⟩, fun _ => rfl⟩

end Sys2Proof.Machine
end

section
/-! Proofs about receive framing (03): the header check (R34), and what a line byte does outside BODY (R37, R38,
R47). -/

namespace Sys2Proof.Machine

/-! ### The header check and the judgement of a header (R34, R40) -/

/-- The complement taken in a byte is the difference from 255 (R34). -/
theorem headerCheck_toNat (b0 b1 b2 : Byte) :
    (headerCheck b0 b1 b2).toNat = 255 - (b0.toNat + b1.toNat + b2.toNat) % 256 := by
  simp [headerCheck, BitVec.toNat_not]

/-- R34 read as numbers. -/
theorem eq_headerCheck_iff_toNat {b0 b1 b2 b3 : Byte} :
    b3 = headerCheck b0 b1 b2 ↔ b3.toNat = 255 - (b0.toNat + b1.toNat + b2.toNat) % 256 := by
  rw [← headerCheck_toNat, BitVec.toNat_inj]

/-- UNDEFINED is the one kind field that names no kind (R33). -/
theorem kindOfBits_isSome_iff {bits : BitVec 2} : (kindOfBits bits).isSome = true ↔ bits ≠ 3 := by
  revert bits; decide

/-- The three conditions of a good header (R40). -/
theorem judgeHeader_isSome_iff {b0 b1 b2 b3 : Byte} {lineError : Bool} :
    (judgeHeader b0 b1 b2 b3 lineError).isSome = true ↔
      b3 = headerCheck b0 b1 b2 ∧ lineError = false ∧ b0.extractLsb' 6 2 ≠ 3 := by
  unfold judgeHeader
  split
  next hgood => simp [hgood, headerOf, kindOfBits_isSome_iff]
  next hbad =>
    simp only [Option.isSome_none, Bool.false_eq_true, false_iff]
    exact fun ⟨hcheck, hline, _⟩ => hbad ⟨hcheck, hline⟩

/-- Settles O21. The check as a number gives both forms: 255 less the sum modulo 256 is the byte that completes the sum
to FFh. In the judgement the other two conditions are given. -/
theorem headerCheckIsTheComplementOfTheSum : Obligations.HeaderCheckIsTheComplementOfTheSum := by
  refine ⟨fun b0 b1 b2 b3 => eq_headerCheck_iff_toNat, fun b0 b1 b2 b3 => ?_, by decide, fun b0 b1 b2 b3 hkind => ?_⟩
  · have hbyte : b3.toNat < 256 := b3.isLt
    rw [eq_headerCheck_iff_toNat]
    omega
  · rw [judgeHeader_isSome_iff]
    exact ⟨fun ⟨hcheck, _, _⟩ => hcheck, fun hcheck => ⟨hcheck, rfl, hkind⟩⟩

/-! ### The line byte by its start strobe (R36, R37) -/

section

variable {s : State}

/-- With reception on, a byte with LRSOP is a start byte (R37). -/
theorem exec_lineByte_start (hreset : s.inReset = false) (hrx : s.rxf.lineRx = true) (data : Byte) (eop err : Bool) :
    exec (.lineByte data true eop err) s = .next (s.startByte data eop err) := by
  simp [exec, execLineByte, State.unlessReset, hreset, hrx]

/-- With reception on, a byte without LRSOP goes by the framer state alone (R38, R39, R42). -/
theorem exec_lineByte_other (hreset : s.inReset = false) (hrx : s.rxf.lineRx = true) (data : Byte) (eop err : Bool) :
    exec (.lineByte data false eop err) s = .next (s.otherByte data eop err) := by
  simp [exec, execLineByte, State.unlessReset, hreset, hrx]

/-! ### A byte without LRSOP outside a packet (R38) -/

/-- A saturating word stays at FFFFh (00, Counters). -/
theorem satInc_word (x : Word) : satInc x = if x = 0xFFFF then 0xFFFF else x + 1 := by
  unfold satInc
  split
  next hmax => subst hmax; rfl
  next hbelow => exact (if_neg hbelow).symm

theorem State.otherByte_of_hunt (hstate : s.rxf.state = .hunt) (data : Byte) (eop err : Bool) :
    s.otherByte data eop err = s.strayByte := by
  simp [State.otherByte, hstate]

theorem State.otherByte_of_discard (hstate : s.rxf.state = .discard) (data : Byte) (eop err : Bool) :
    s.otherByte data eop err = if eop then s.setRxFramer .hunt else s := by
  simp [State.otherByte, hstate]

/-! ### A byte with LRSOP outside BODY (R37, R47) -/

theorem State.startByte_of_outside (hstate : s.rxf.state = .hunt ∨ s.rxf.state = .discard) (data : Byte)
    (eop err : Bool) : s.startByte data eop err = s.beginPacket data eop err := by
  obtain hhunt | hdiscard := hstate
  · simp [State.startByte, hhunt]
  · simp [State.startByte, hdiscard]

theorem State.startByte_of_header {p : HeaderPacket} (hstate : s.rxf.state = .header p) (data : Byte)
    (eop err : Bool) : s.startByte data eop err = (s.headerError .hunt).beginPacket data eop err := by
  simp [State.startByte, hstate]

/-- The beginning of a packet does not look at the framer state it leaves (R37). -/
theorem State.beginPacket_setRxFramer (f : RxFramerState) (data : Byte) (eop err : Bool) :
    (s.setRxFramer f).beginPacket data eop err = s.beginPacket data eop err := by
  cases eop <;> rfl

/-- Without LREOP the packet is begun (R37). -/
theorem State.beginPacket_of_not_eop (data : Byte) (err : Bool) :
    s.beginPacket data false err =
      { s with rxf := { s.rxf with
          packetsSeen := s.rxf.packetsSeen + 1
          state := .header { stamp := ⟨s.time.epoch, s.time.now⟩, arrival := s.rxf.packetsSeen + 1, bytes := [data],
                             lineError := err, crc := crcByte 0xFFFF data } } } := rfl

/-- A header error counts and raises HDR_ERROR, which is bit 7, and leaves the rest of the state (R39, R40, R47). -/
theorem State.headerError_eq (f : RxFramerState) :
    s.headerError f =
      { s with rxf := { s.rxf with headerErrors := satInc s.rxf.headerErrors, state := f }
               irq := { s.irq with status := s.irq.status ||| 0x080 } } := rfl

/-- With LREOP the packet is seen and is a header error in the same step (R37). -/
theorem State.beginPacket_of_eop (data : Byte) (err : Bool) :
    s.beginPacket data true err =
      { s with rxf := { s.rxf with packetsSeen := s.rxf.packetsSeen + 1, headerErrors := satInc s.rxf.headerErrors,
                                   state := .hunt }
               irq := { s.irq with status := s.irq.status ||| 0x080 } } := rfl

end

/-! ### The statements about a byte outside BODY -/

/-- Settles O18: HUNT and DISCARD each have one arm for a byte without LRSOP, and the beginning of a packet is the same
from both. -/
theorem bytesOutsideAPacket : Obligations.BytesOutsideAPacket := by
  intro s data eop err hreset hrx
  rw [exec_lineByte_other hreset hrx, exec_lineByte_start hreset hrx]
  refine ⟨fun hhunt => ?_, fun hdiscard heop => ?_, fun hdiscard heop => ?_, fun hdiscard => ?_⟩
  · rw [State.otherByte_of_hunt hhunt, State.strayByte, satInc_word]
  · simp [State.otherByte_of_discard hdiscard, heop]
  · simp [State.otherByte_of_discard hdiscard, heop, State.setRxFramer]
  · have hsame : (s.setRxFramer .hunt).startByte data eop err = s.startByte data eop err := by
      rw [State.startByte_of_outside (.inl rfl), State.startByte_of_outside (.inr hdiscard),
        State.beginPacket_setRxFramer]
    rw [← hsame]
    exact (exec_lineByte_start (s := s.setRxFramer .hunt) hreset hrx data eop err).symm

/-- Settles O19, by the two forms of `State.beginPacket`; in HEADER they apply after the header error of the packet in
progress, and a second header error finds HDR_ERROR already set. -/
theorem startByteBeginsAPacket : Obligations.StartByteBeginsAPacket := by
  intro s data err hreset hrx seen fresh
  simp only [exec_lineByte_start hreset hrx]
  refine ⟨fun houtside => ?_, fun p hheader => ?_⟩
  · simp only [State.startByte_of_outside houtside]
    exact ⟨congrArg _ (State.beginPacket_of_not_eop data err), congrArg _ (State.beginPacket_of_eop data err)⟩
  · simp only [State.startByte_of_header hheader, State.headerError_eq, State.beginPacket_of_not_eop,
      State.beginPacket_of_eop, BitVec.or_assoc, BitVec.or_self]
    exact ⟨rfl, rfl⟩

end Sys2Proof.Machine
end

section
/-! Proofs about the receive queues (05): a command that is accepted in every state of its queue, and what RX_ACK_BATCH
makes of each state (R82). -/

namespace Sys2Proof.Machine

variable {s : State}

/-! ### A command on one queue that is accepted in every state (R75, R82) -/

/-- Taken with a queue above 15, the command completes with BAD_ARG and changes no queue (R178). -/
theorem shortCommand_onRxQueue_badArg (code : Word) (f : RxQueue → RxQueue) (htakes : s.takesCommands)
    (hrange : 15 < s.cmd.operands.a.toNat) :
    shortCommand code (onRxQueue f) s = s.doneWith code .badArg := by
  have harg : rxQueueArg s.cmd.operands.a = none := rxQueueArg_eq_none.mpr hrange
  rw [shortCommand_taken s code _ htakes, ← State.complete_accept]
  simp only [onRxQueue, harg]

/-- Taken with the number of a queue, the command changes that queue by `f` and completes with OK (R157). -/
theorem shortCommand_onRxQueue_ok (code : Word) (f : RxQueue → RxQueue) (htakes : s.takesCommands) {q : RxQueueId}
    (hqueue : s.cmd.operands.a.toNat = q.val) :
    shortCommand code (onRxQueue f) s = (s.setRxQueue q (f (s.rxQueue q))).doneWith code .ok := by
  have harg : rxQueueArg s.cmd.operands.a = some q := rxQueueArg_eq_some.mpr hqueue
  rw [shortCommand_taken s code _ htakes]
  simp only [onRxQueue, harg]
  rfl

/-- Writing back the queue that is there changes nothing. -/
@[simp] theorem State.setRxQueue_rxQueue (q : RxQueueId) : s.setRxQueue q (s.rxQueue q) = s := by
  simp [State.setRxQueue, State.rxQueue]

/-- The completion of a command leaves the receive queues. -/
@[simp] theorem State.doneWith_rxQueue (code : Word) (res : Result) (q : RxQueueId) :
    (s.doneWith code res).rxQueue q = s.rxQueue q := rfl

/-! ### RX_ACK_BATCH on the queue (R82) -/

section

variable {r : RxQueue}

theorem RxQueue.acknowledge_of_grace (hstate : r.state = .grace) :
    r.acknowledge = { r with batchComplete := false, state := .run } := by
  simp [RxQueue.acknowledge, hstate]

theorem RxQueue.acknowledge_of_heldGrace (hstate : r.state = .held .grace) :
    r.acknowledge = { r with batchComplete := false, state := .held .run } := by
  simp [RxQueue.acknowledge, hstate]

/-- Outside the two forms of GRACE the state stays. -/
theorem RxQueue.acknowledge_of_other (hgrace : r.state ≠ .grace) (hheld : r.state ≠ .held .grace) :
    r.acknowledge = { r with batchComplete := false } := by
  unfold RxQueue.acknowledge
  split
  next hstate => exact absurd hstate hgrace
  next hstate => exact absurd hstate hheld
  next => rfl

/-- With BC already clear there is then nothing to change. -/
theorem RxQueue.acknowledge_of_clear (hgrace : r.state ≠ .grace) (hheld : r.state ≠ .held .grace)
    (hclear : r.batchComplete = false) : r.acknowledge = r := by
  rw [RxQueue.acknowledge_of_other hgrace hheld, ← hclear]

/-- RX_RESUME returns a queue HELD from RUN to RUN (R86). -/
theorem RxQueue.resume_of_heldRun (hstate : r.state = .held .run) : r.resume = some { r with state := .run } := by
  simp [RxQueue.resume, hstate]

end

/-! ### The statement about RX_ACK_BATCH -/

theorem exec_rxAckBatch : exec .rxAckBatch s = .next (shortCommand 0x35 (onRxQueue RxQueue.acknowledge) s) := rfl

/-- Settles O36. A queue in range takes `RxQueue.acknowledge` in every state, and the four clauses are its cases by the
state; RX_RESUME is then read from the queue that HELD leaves. -/
theorem rxAckBatchClearsBatchComplete : Obligations.RxAckBatchClearsBatchComplete := by
  intro s htakes
  refine ⟨fun hrange => ?_, ?_⟩
  · rw [exec_rxAckBatch, shortCommand_onRxQueue_badArg _ _ htakes hrange]
  intro q hqueue r
  have hexec : exec .rxAckBatch s = .next ((s.setRxQueue q r.acknowledge).doneWith 0x35 .ok) := by
    rw [exec_rxAckBatch, shortCommand_onRxQueue_ok _ _ htakes hqueue]
  rw [hexec]
  refine ⟨fun hgrace => ?_, fun hheld => ⟨_, rfl, ?_, ?_⟩, fun hgrace hheld => ?_, fun hgrace hheld hclear => ?_⟩
  · rw [RxQueue.acknowledge_of_grace hgrace]
  · rw [RxQueue.acknowledge_of_heldGrace hheld]
  · rw [RxQueue.acknowledge_of_heldGrace hheld, State.doneWith_rxQueue, State.rxQueue_setRxQueue, if_pos rfl,
      RxQueue.resume_of_heldRun rfl, Option.map_some]
  · rw [RxQueue.acknowledge_of_other hgrace hheld]
  · rw [RxQueue.acknowledge_of_clear hgrace hheld hclear, State.setRxQueue_rxQueue]

end Sys2Proof.Machine
end

section
/-! Proofs about the staging record (07): what TX_ABANDON returns (R27, R118). -/

namespace Sys2Proof.Machine

variable {s : State}

/-! ### The staging record abandoned (R27, R118) -/

/-- An OPEN staging record returns what it was granted, whatever part of its payload is written (R27). -/
theorem State.abandonStaging_of_open {r : StagingRecord} (hopen : s.staging.record = some r) :
    s.abandonStaging = s.closeStaging.returnHolder r.cells := by
  simp only [State.abandonStaging, hopen]

theorem txAbandon_of_closed (o : Operands) (hclosed : s.staging.record = none) : txAbandon o s = (s, .noWindow) := by
  simp [txAbandon, hclosed]

theorem txAbandon_of_open (o : Operands) {r : StagingRecord} (hopen : s.staging.record = some r) :
    txAbandon o s = (s.closeStaging.returnHolder r.cells, .ok) := by
  simp [txAbandon, State.abandonStaging_of_open hopen, hopen]

/-! ### The statement about TX_ABANDON -/

theorem exec_txAbandon : exec .txAbandon s = .next (shortCommand 0x43 txAbandon s) := rfl

/-- Settles O42. Acceptance leaves staging, so the owner finds the record that `s` holds; closing staging and returning
the holder then commute with the completion, because they write other blocks than the command unit and the events. -/
theorem txAbandonReturnsTheStagingRecord : Obligations.TxAbandonReturnsTheStagingRecord := by
  intro s htakes
  rw [exec_txAbandon, shortCommand_taken s _ _ htakes]
  have haccept : (s.acceptCommand 0x43).staging = s.staging := rfl
  refine ⟨fun hclosed => ?_, fun r hopen => ?_⟩
  · rw [txAbandon_of_closed _ (haccept ▸ hclosed), State.complete_accept]
  · rw [txAbandon_of_open _ (haccept ▸ hopen)]
    rfl

end Sys2Proof.Machine
end

section
/-! Proofs about the command unit (10): a code that names no command, in IDLE and in BUSY (R159, R161). -/

namespace Sys2Proof.Machine

variable {s : State}

/-! ### A write to CMD that names no command (R161) -/

/-- No owner is behind such a code: the write is a short command that changes no block of its own. -/
theorem writeCmd_of_unknown {code : Word} (hunknown : commandOfCode code = none) :
    writeCmd code s = .next (shortCommand code completeUnknown s) := by
  simp only [writeCmd, hunknown]

theorem exec_unknownCommand (code : Word) : exec (.unknownCommand code) s = writeCmd code s := rfl

/-- Taken in IDLE, the short command completes what acceptance left, with UNKNOWN. -/
theorem shortCommand_completeUnknown (code : Word) (htakes : s.takesCommands) :
    shortCommand code completeUnknown s = s.doneWith code .unknown := by
  rw [shortCommand_taken s code _ htakes, ← State.complete_accept]
  rfl

/-- A refusal sets REFUSED and raises CMD_REFUSED, bit 1 of the event status (R159). -/
theorem State.refuseCommand_eq :
    s.refuseCommand =
      { s with cmd := { s.cmd with refused := true }, irq := { s.irq with status := s.irq.status ||| 0x002 } } := rfl

/-- Settles O6. The code names no command, so its write is one short command, and the two clauses are what a short
command does in IDLE and in BUSY. -/
theorem unknownCodeCompletesWithUnknown : Obligations.UnknownCodeCompletesWithUnknown := by
  intro code s hunknown hreset
  rw [exec_unknownCommand, writeCmd_of_unknown hunknown]
  refine ⟨fun hidle => ?_, fun l hbusy => ?_⟩
  · rw [shortCommand_completeUnknown code ⟨hreset, hidle⟩]
  · rw [shortCommand_busy s code _ hreset l hbusy, State.refuseCommand_eq]

end Sys2Proof.Machine
end

section
/-! Proofs about the block as a machine and about the command unit (10): the front command, the rows that stand for
other rows (log 11), what a held reset and a BUSY unit make of every row, and a number out of range in OPA. -/

namespace Sys2Proof.Machine

variable {s : State}

/-! ### The block as a machine -/

/-- Settles O1: the two arms of `step`. -/
theorem stepRunsFrontCommand : Obligations.StepRunsFrontCommand :=
  ⟨fun s c rest hfront => by simp only [step, hfront], fun s hnone => by simp only [step, hnone]⟩

/-! ### Rows that act as other rows (log 11) -/

/-- The commands that a code written to CMD names. -/
def commandRows : List Instr := commandTable.map (·.2)

/-- A row that stands for itself alone: every one but the write of a word and the write of a code to CMD. -/
def actsAsItself : Instr → Bool
  | .registerWrite _ _ | .unknownCommand _ => false
  | _ => true

theorem mem_commandRows_of_commandOfCode {code : Word} {c : Instr} (h : commandOfCode code = some c) :
    c ∈ commandRows := by
  obtain ⟨before, after, htable, _⟩ := List.lookup_eq_some_iff.mp h
  exact List.mem_map.mpr ⟨(code, c), by simp [htable], rfl⟩

/-- A write to CMD is the command its code names, or a short command that completes with UNKNOWN (R156, R161). -/
theorem writeCmd_cases (code : Word) (s : State) :
    (∃ c ∈ commandRows, writeCmd code s = exec c s) ∨
      writeCmd code s = .next (shortCommand code completeUnknown s) := by
  unfold writeCmd
  split
  case h_33 => exact .inr rfl
  all_goals next hcode => exact .inl ⟨_, mem_commandRows_of_commandOfCode hcode, rfl⟩

theorem actsAsItself_of_mem_commandRows {c : Instr} (h : c ∈ commandRows) : actsAsItself c = true := by
  have hall : ∀ c ∈ commandRows, actsAsItself c = true := by decide
  exact hall c h

/-- The three rows of the reset pin and the supply (R174). -/
def isPinRow : Instr → Bool
  | .hardwareReset | .powerUp | .resetNRelease => true
  | _ => false

theorem isPinRow_of_mem_commandRows {c : Instr} (h : c ∈ commandRows) : isPinRow c = false := by
  have hall : ∀ c ∈ commandRows, isPinRow c = false := by decide
  exact hall c h

/-- The write of a word is a write to CMD, the row of a word that has one, or it stores the word (R173; log 11). -/
theorem exec_registerWrite_cases (addr : BitVec 6) (value : Word) (s : State) :
    exec (.registerWrite addr value) s = writeCmd value s ∨
      (∃ c, actsAsItself c = true ∧ isPinRow c = false ∧ exec (.registerWrite addr value) s = exec c s) ∨
      exec (.registerWrite addr value) s = .next (s.unlessReset fun s => s.storeWord addr value) := by
  change execRegisterWrite addr value s = _ ∨
    (∃ c, actsAsItself c = true ∧ isPinRow c = false ∧ execRegisterWrite addr value s = _) ∨
    execRegisterWrite addr value s = _
  unfold execRegisterWrite
  split
  · exact .inl rfl
  split
  · exact .inr (.inl ⟨.cmdStatusWrite value, rfl, rfl, rfl⟩)
  split
  · exact .inr (.inl ⟨.evtStatusWrite value, rfl, rfl, rfl⟩)
  split
  · exact .inr (.inl ⟨.evtEnableWrite value, rfl, rfl, rfl⟩)
  split
  · exact .inr (.inl ⟨.winStatusWrite value, rfl, rfl, rfl⟩)
  split
  · exact .inr (.inl ⟨.winCtrlWrite value, rfl, rfl, rfl⟩)
  split
  · exact .inr (.inl ⟨.dataPortWrite .processor value, rfl, rfl, rfl⟩)
  split
  · exact .inr (.inl ⟨.stgStatusWrite value, rfl, rfl, rfl⟩)
  split
  · exact .inr (.inl ⟨.qEventsWrite value, rfl, rfl, rfl⟩)
  · exact .inr (.inr rfl)

/-- What holds of the rows that stand for themselves (of those of the reset pin only where the row is one), of a stored
word and of an unknown code holds of the row. -/
theorem exec_of_rows {Q : Host.Outcome State Fault Refusal → Prop} (c : Instr)
    (hrow : ∀ d, actsAsItself d = true → (isPinRow d = true → d = c) → Q (exec d s))
    (hstore : ∀ addr value, Q (.next (s.unlessReset fun s => s.storeWord addr value)))
    (hunknown : ∀ code, Q (.next (shortCommand code completeUnknown s))) : Q (exec c s) := by
  have hwrite (code : Word) : Q (writeCmd code s) := by
    obtain ⟨d, hd, heq⟩ | heq := writeCmd_cases code s
    · rw [heq]
      exact hrow d (actsAsItself_of_mem_commandRows hd) (by simp [isPinRow_of_mem_commandRows hd])
    · exact heq ▸ hunknown code
  by_cases hself : actsAsItself c = true
  · exact hrow c hself fun _ => rfl
  · cases c <;> try exact absurd rfl hself
    case registerWrite addr value =>
      obtain heq | ⟨d, hd, hpin, heq⟩ | heq := exec_registerWrite_cases addr value s
      · exact heq ▸ hwrite value
      · rw [heq]
        exact hrow d hd (by simp [hpin])
      · exact heq ▸ hstore addr value
    case unknownCommand code => exact hwrite code

/-! ### A held reset (R174) -/

theorem State.unlessReset_of_held (f : State → State) (hheld : s.inReset = true) : s.unlessReset f = s := by
  simp [State.unlessReset, hheld]

theorem State.unlessReset_of_released (f : State → State) (hreset : s.inReset = false) : s.unlessReset f = f s := by
  simp [State.unlessReset, hreset]

/-- Every row but the three of the reset pin is ignored while RESET_N is asserted (R174). -/
theorem exec_of_held (hheld : s.inReset = true) {c : Instr} (hpin : isPinRow c = false) : exec c s = .next s := by
  have hnext (f : State → State) : Host.Outcome.next (φ := Fault) (ρ := Refusal) (s.unlessReset f) = .next s :=
    congrArg _ (s.unlessReset_of_held f hheld)
  refine exec_of_rows (Q := (· = .next s)) c (fun d hself hd => ?_) (fun _ _ => hnext _) (fun _ => hnext _)
  cases d
  case hardwareReset | powerUp | resetNRelease => exact absurd (hd rfl ▸ hpin) (by decide)
  case registerWrite | unknownCommand => cases hself
  all_goals exact hnext _

/-- Settles O3: no row but those of the pin has an effect, and each output is released by its own definition. -/
theorem heldResetIgnoresEverything : Obligations.HeldResetIgnoresEverything := by
  intro s hheld
  refine ⟨fun c hhard hpower hrelease => exec_of_held hheld ?_, fun addr => ?_, ?_, ?_, ?_⟩
  · cases c <;> first | rfl | contradiction
  · simp [State.hostRead, hheld]
  · simp [State.hintAsserted, hheld]
  · simp [State.hdreqAsserted, hheld]
  · simp [State.transmitPins, hheld]

/-! ### A BUSY unit (R158, R159) -/

/-- A command written while the unit is BUSY is refused, the long ones as the short ones (R159). -/
theorem exec_of_busy (hreset : s.inReset = false) {l : LongCommand} (hbusy : s.cmd.running = some l) {c : Instr}
    (hc : c ∈ commandRows) : exec c s = .next s.refuseCommand := by
  have hlong (f : State → State) :
      s.unlessReset (fun s => if s.busy then s.refuseCommand else f s) = s.refuseCommand := by
    simp [State.unlessReset_of_released _ hreset, State.busy, hbusy]
  simp only [commandRows, commandTable, List.cons_append, List.nil_append, List.map_cons, List.map_nil,
    List.mem_cons, List.not_mem_nil, or_false] at hc
  rcases hc with rfl | rfl | rfl | rfl | rfl | rfl | rfl | rfl | rfl | rfl | rfl | rfl | rfl | rfl | rfl | rfl | rfl |
    rfl | rfl | rfl | rfl | rfl | rfl | rfl | rfl | rfl | rfl | rfl | rfl | rfl | rfl | rfl
  all_goals exact congrArg _ (hlong _)

/-- A row with a code is a command of the table or an unknown code. -/
theorem commandCode_cases {c : Instr} {code : Word} (h : commandCode c = some code) :
    c ∈ commandRows ∨ ∃ unknown, c = .unknownCommand unknown := by
  by_cases hunknown : ∃ unknown, c = .unknownCommand unknown
  · exact .inr hunknown
  have hfound : (commandTable.find? fun row => row.2 == c).map (·.1) = some code := by
    cases c
    case unknownCommand unknown => exact absurd ⟨unknown, rfl⟩ hunknown
    all_goals exact h
  obtain ⟨row, hrow, -⟩ := Option.map_eq_some_iff.mp hfound
  have hsame : row.2 = c := by simpa using List.find?_some hrow
  exact .inl (List.mem_map.mpr ⟨row, List.mem_of_find?_eq_some hrow, hsame⟩)

/-- Settles O5: the write of a code is a command of the table or a short command without an owner, and both are refused
in BUSY. -/
theorem busyUnitRefusesEveryCommand : Obligations.BusyUnitRefusesEveryCommand := by
  intro c code s l hcode hreset hbusy
  rw [← State.refuseCommand_eq]
  obtain hmem | ⟨unknown, rfl⟩ := commandCode_cases hcode
  · exact exec_of_busy hreset hbusy hmem
  · rw [exec_unknownCommand]
    obtain ⟨d, hd, heq⟩ | heq := writeCmd_cases unknown s
    · rw [heq, exec_of_busy hreset hbusy hd]
    · rw [heq, shortCommand_busy s _ _ hreset l hbusy]

/-! ### A command that answers without a change (R157) -/

/-- An owner that answers a result and leaves the accepted state makes no change beside the completion. -/
theorem shortCommand_answer {code : Word} {owner : Operands → State → State × Result} {res : Result}
    (htakes : s.takesCommands) (howner : owner s.cmd.operands (s.acceptCommand code) = (s.acceptCommand code, res)) :
    shortCommand code owner s = s.doneWith code res := by
  rw [shortCommand_taken s _ _ htakes, howner, State.complete_accept]

/-- RX_FLUSH taken in IDLE with the number of a queue (R91). -/
theorem exec_rxFlush_of_queue (htakes : s.takesCommands) {q : RxQueueId} (hqueue : s.cmd.operands.a.toNat = q.val) :
    exec .rxFlush s = .next (((s.acceptCommand 0x37).startRxFlush q).completeRxFlush q) := by
  have harg : rxQueueArg s.cmd.operands.a = some q := rxQueueArg_eq_some.mpr hqueue
  change execRxFlush s = _
  simp [execRxFlush, State.unlessReset_of_released _ htakes.1, State.busy, htakes.2, harg]

/-- RX_FLUSH of a queue above 15 completes without BUSY (R158). -/
theorem exec_rxFlush_badArg (htakes : s.takesCommands) (hrange : 15 < s.cmd.operands.a.toNat) :
    exec .rxFlush s = .next (s.doneWith 0x37 .badArg) := by
  have harg : rxQueueArg s.cmd.operands.a = none := rxQueueArg_eq_none.mpr hrange
  change execRxFlush s = _
  simp [execRxFlush, State.unlessReset_of_released _ htakes.1, State.busy, htakes.2, harg, State.complete_accept]

/-- TX_FLUSH taken in IDLE with the number of a queue (R124). -/
theorem exec_txFlush_of_queue (htakes : s.takesCommands) {t : TxQueueId} (hqueue : s.cmd.operands.a.toNat = t.val) :
    exec .txFlush s = .next
      ((((s.acceptCommand 0x47).setTxQueue t { s.txQueue t with flush := true }).startLong
        (.txFlush t)).completeTxFlush) := by
  have harg : txQueueArg s.cmd.operands.a = some t := txQueueArg_eq_some.mpr hqueue
  change execTxFlush s = _
  simp [execTxFlush, State.unlessReset_of_released _ htakes.1, State.busy, htakes.2, harg]
  rfl

/-- TX_FLUSH of a queue above 3 completes without BUSY (R158). -/
theorem exec_txFlush_badArg (htakes : s.takesCommands) (hrange : 3 < s.cmd.operands.a.toNat) :
    exec .txFlush s = .next (s.doneWith 0x47 .badArg) := by
  have harg : txQueueArg s.cmd.operands.a = none := txQueueArg_eq_none.mpr hrange
  change execTxFlush s = _
  simp [execTxFlush, State.unlessReset_of_released _ htakes.1, State.busy, htakes.2, harg, State.complete_accept]

/-- A command on one queue that is accepted only in some states refuses a queue above 15 with BAD_ARG (R178). -/
theorem onRxQueueIf_badArg (f : RxQueue → Option RxQueue) {o : Operands} (hrange : 15 < o.a.toNat) :
    onRxQueueIf f o s = (s, .badArg) := by
  simp [onRxQueueIf, rxQueueArg_eq_none.mpr hrange]

/-- Settles O7: the number is the first operand each owner reads, and none of a number out of range is BAD_ARG. -/
theorem numberOutOfRangeIsBadArg : Obligations.NumberOutOfRangeIsBadArg := by
  intro s htakes
  refine ⟨fun hrange => ?_, fun hrange => ?_, fun hrange => ?_⟩
  · have harg : rxQueueArg s.cmd.operands.a = none := rxQueueArg_eq_none.mpr hrange
    exact ⟨congrArg _ (shortCommand_answer htakes (by simp [rxConfigure, rxConfigArgs, harg])),
      congrArg _ (shortCommand_answer htakes (by simp [rxSetWindow, rxWindowArgs, harg])),
      congrArg _ (shortCommand_answer htakes (onRxQueueIf_badArg _ hrange)),
      congrArg _ (shortCommand_onRxQueue_badArg _ _ htakes hrange),
      congrArg _ (shortCommand_answer htakes (onRxQueueIf_badArg _ hrange)),
      congrArg _ (shortCommand_onRxQueue_badArg _ _ htakes hrange),
      congrArg _ (shortCommand_answer htakes (onRxQueueIf_badArg _ hrange)),
      exec_rxFlush_badArg htakes hrange,
      congrArg _ (shortCommand_answer htakes (by simp [rxOpen, harg]))⟩
  · have harg : txQueueArg s.cmd.operands.a = none := txQueueArg_eq_none.mpr hrange
    exact ⟨congrArg _ (shortCommand_answer htakes (by simp [txConfigure, txConfigArgs, harg])),
      congrArg _ (shortCommand_answer htakes (by simp [txCancel, harg])),
      congrArg _ (shortCommand_answer htakes (by simp [txPause, harg])),
      congrArg _ (shortCommand_answer htakes (by simp [txStart, harg])),
      exec_txFlush_badArg htakes hrange⟩
  · have harg : channelArg s.cmd.operands.a = none := channelArg_eq_none.mpr hrange
    exact ⟨congrArg _ (shortCommand_answer htakes (by simp [chWrite, channelWriteArgs, harg])),
      congrArg _ (shortCommand_answer htakes (by simp [chRead, harg])),
      congrArg _ (shortCommand_answer htakes (by simp [chSeqReset, harg])),
      congrArg _ (shortCommand_answer htakes (by simp [txSeqSet, harg]))⟩

/-! ### The queue of waiting commands (log 2) -/

/-- What acceptance and completion keep and the owner keeps, the short command keeps. -/
theorem shortCommand_keeps {P : State → Prop} (haccept : ∀ s code, P s → P (s.acceptCommand code))
    (hcomplete : ∀ s r, P s → P (State.completeCommand s r)) (hrefuse : ∀ s, P s → P s.refuseCommand)
    {owner : Operands → State → State × Result} (howner : ∀ o s, P s → P (owner o s).1) (code : Word)
    (hs : P s) : P (shortCommand code owner s) := by
  unfold shortCommand State.unlessReset
  split
  · exact hs
  dsimp only
  split
  · exact hrefuse s hs
  · exact hcomplete _ _ (howner _ _ (haccept s code hs))

theorem State.unlessReset_keeps {P : State → Prop} {f : State → State} (hs : P s)
    (hf : s.inReset = false → P (f s)) : P (s.unlessReset f) := by
  unfold State.unlessReset
  split
  next => exact hs
  next hreset => exact hf (by simpa using hreset)

/-- A short command whose owner leaves the queue of waiting commands leaves it. -/
theorem shortCommand_pending {code : Word} {owner : Operands → State → State × Result}
    (howner : ∀ o s, (owner o s).1.pending = s.pending) : (shortCommand code owner s).pending = s.pending :=
  shortCommand_keeps (P := fun u => u.pending = s.pending) (fun _ _ h => h) (fun _ _ h => h) (fun _ h => h)
    (fun o u h => (howner o u).trans h) code rfl

@[simp] theorem State.returnWord_pending (w : Word) : (s.returnWord w).pending = s.pending := rfl

@[simp] theorem State.dataPortRead_pending : s.dataPortRead.pending = s.pending := by
  unfold State.dataPortRead
  split
  · rfl
  · dsimp only
    split <;> rfl

@[simp] theorem State.dataPortWrite_pending (value : Word) : (s.dataPortWrite value).pending = s.pending := by
  unfold State.dataPortWrite
  split
  · rfl
  · split <;> rfl

@[simp] theorem State.storeWord_pending (addr : BitVec 6) (value : Word) :
    (s.storeWord addr value).pending = s.pending := by
  unfold State.storeWord
  split_ifs <;> rfl

/-- The beginning of a packet touches the framer and the event status. -/
@[simp] theorem State.beginPacket_frame (data : Byte) (eop err : Bool) :
    (s.beginPacket data eop err).inReset = s.inReset ∧ (s.beginPacket data eop err).time = s.time ∧
    (s.beginPacket data eop err).pool = s.pool ∧ (s.beginPacket data eop err).channels = s.channels ∧
    (s.beginPacket data eop err).txSequence = s.txSequence ∧ (s.beginPacket data eop err).rxq = s.rxq ∧
    (s.beginPacket data eop err).window = s.window ∧ (s.beginPacket data eop err).staging = s.staging ∧
    (s.beginPacket data eop err).txq = s.txq ∧ (s.beginPacket data eop err).txf = s.txf ∧
    (s.beginPacket data eop err).reports = s.reports ∧ (s.beginPacket data eop err).cmd = s.cmd ∧
    (s.beginPacket data eop err).host = s.host ∧ (s.beginPacket data eop err).pending = s.pending := by
  cases eop <;> simp [State.beginPacket]

/-- A start byte leaves the transmit side, the window, staging, the reports, the command unit and the host port alone. -/
@[simp] theorem State.startByte_frame (data : Byte) (eop err : Bool) :
    (s.startByte data eop err).inReset = s.inReset ∧ (s.startByte data eop err).txSequence = s.txSequence ∧
    (s.startByte data eop err).window = s.window ∧ (s.startByte data eop err).staging = s.staging ∧
    (s.startByte data eop err).txq = s.txq ∧ (s.startByte data eop err).txf = s.txf ∧
    (s.startByte data eop err).reports = s.reports ∧ (s.startByte data eop err).cmd = s.cmd ∧
    (s.startByte data eop err).host = s.host ∧ (s.startByte data eop err).pending = s.pending ∧
    (s.startByte data eop err).time.now = s.time.now := by
  unfold State.startByte
  split <;> simp [State.endPacket]

@[simp] theorem State.goodHeader_frame (p : HeaderPacket) (h : Header) (b3 : Byte) (eop : Bool) :
    (s.goodHeader p h b3 eop).inReset = s.inReset ∧ (s.goodHeader p h b3 eop).txSequence = s.txSequence ∧
    (s.goodHeader p h b3 eop).window = s.window ∧ (s.goodHeader p h b3 eop).staging = s.staging ∧
    (s.goodHeader p h b3 eop).txq = s.txq ∧ (s.goodHeader p h b3 eop).txf = s.txf ∧
    (s.goodHeader p h b3 eop).reports = s.reports ∧ (s.goodHeader p h b3 eop).cmd = s.cmd ∧
    (s.goodHeader p h b3 eop).host = s.host ∧ (s.goodHeader p h b3 eop).pending = s.pending ∧
    (s.goodHeader p h b3 eop).time.now = s.time.now := by
  cases eop <;> simp [State.goodHeader, State.endPacket]

@[simp] theorem State.headerByte_frame (p : HeaderPacket) (data : Byte) (eop err : Bool) :
    (s.headerByte p data eop err).inReset = s.inReset ∧ (s.headerByte p data eop err).txSequence = s.txSequence ∧
    (s.headerByte p data eop err).window = s.window ∧ (s.headerByte p data eop err).staging = s.staging ∧
    (s.headerByte p data eop err).txq = s.txq ∧ (s.headerByte p data eop err).txf = s.txf ∧
    (s.headerByte p data eop err).reports = s.reports ∧ (s.headerByte p data eop err).cmd = s.cmd ∧
    (s.headerByte p data eop err).host = s.host ∧ (s.headerByte p data eop err).pending = s.pending ∧
    (s.headerByte p data eop err).time.now = s.time.now := by
  unfold State.headerByte
  dsimp only
  split <;> split <;> simp

/-- So does any other byte. -/
@[simp] theorem State.otherByte_frame (data : Byte) (eop err : Bool) :
    (s.otherByte data eop err).inReset = s.inReset ∧ (s.otherByte data eop err).txSequence = s.txSequence ∧
    (s.otherByte data eop err).window = s.window ∧ (s.otherByte data eop err).staging = s.staging ∧
    (s.otherByte data eop err).txq = s.txq ∧ (s.otherByte data eop err).txf = s.txf ∧
    (s.otherByte data eop err).reports = s.reports ∧ (s.otherByte data eop err).cmd = s.cmd ∧
    (s.otherByte data eop err).host = s.host ∧ (s.otherByte data eop err).pending = s.pending ∧
    (s.otherByte data eop err).time.now = s.time.now := by
  unfold State.otherByte
  split
  · simp [State.strayByte]
  · split <;> simp
  · simp
  · dsimp only
    split <;> simp [State.endPacket]

@[simp] theorem State.noteBoundary_pending : s.noteBoundary.pending = s.pending := by
  unfold State.noteBoundary
  split <;> rfl

@[simp] theorem State.takeBoundary_pending : s.takeBoundary.pending = s.pending := by
  simp [State.takeBoundary]

@[simp] theorem State.takeCountingEdge_pending : s.takeCountingEdge.pending = s.pending := by
  simp [State.takeCountingEdge]

/-- What SOFT_RESET does to the receive framer touches the framer and the pool (R51). -/
@[simp] theorem State.softResetFramer_frame :
    s.softResetFramer.inReset = s.inReset ∧ s.softResetFramer.time = s.time ∧
    s.softResetFramer.channels = s.channels ∧ s.softResetFramer.txSequence = s.txSequence ∧
    s.softResetFramer.rxq = s.rxq ∧ s.softResetFramer.window = s.window ∧ s.softResetFramer.staging = s.staging ∧
    s.softResetFramer.txq = s.txq ∧ s.softResetFramer.txf = s.txf ∧ s.softResetFramer.reports = s.reports ∧
    s.softResetFramer.cmd = s.cmd ∧ s.softResetFramer.irq = s.irq ∧ s.softResetFramer.host = s.host ∧
    s.softResetFramer.pending = s.pending ∧ s.softResetFramer.rxf.lineRx = s.rxf.lineRx := by
  unfold State.softResetFramer
  split <;> simp

/-- What SOFT_RESET does to the transmit framer touches that side and the pool (R147). -/
@[simp] theorem State.softResetTransmit_frame :
    s.softResetTransmit.inReset = s.inReset ∧ s.softResetTransmit.time = s.time ∧ s.softResetTransmit.rxf = s.rxf ∧
    s.softResetTransmit.channels = s.channels ∧ s.softResetTransmit.txSequence = s.txSequence ∧
    s.softResetTransmit.rxq = s.rxq ∧ s.softResetTransmit.window = s.window ∧
    s.softResetTransmit.staging = s.staging ∧ s.softResetTransmit.reports = s.reports ∧
    s.softResetTransmit.cmd = s.cmd ∧ s.softResetTransmit.irq = s.irq ∧ s.softResetTransmit.host = s.host ∧
    s.softResetTransmit.pending = s.pending ∧ s.softResetTransmit.txf.lineTx = s.txf.lineTx := by
  unfold State.softResetTransmit
  split <;> simp

/-- The acceptance of SOFT_RESET leaves the time base, the tables and the host port alone (R162). -/
@[simp] theorem State.acceptSoftReset_frame :
    s.acceptSoftReset.inReset = s.inReset ∧ s.acceptSoftReset.time = s.time ∧
    s.acceptSoftReset.channels = s.channels ∧ s.acceptSoftReset.txSequence = s.txSequence ∧
    s.acceptSoftReset.host = s.host ∧ s.acceptSoftReset.pending = s.pending ∧
    s.acceptSoftReset.txf.lineTx = s.txf.lineTx := by
  simp [State.acceptSoftReset, State.clearReports, State.softResetTxFlags, State.softResetRxQueues,
    State.clearEvents, State.softResetUnit]

/-- The start of RX_FLUSH touches the queue, the window, the command unit and the event status (R91). -/
@[simp] theorem State.startRxFlush_frame (q : RxQueueId) :
    (s.startRxFlush q).inReset = s.inReset ∧ (s.startRxFlush q).time = s.time ∧ (s.startRxFlush q).pool = s.pool ∧
    (s.startRxFlush q).rxf = s.rxf ∧ (s.startRxFlush q).channels = s.channels ∧
    (s.startRxFlush q).txSequence = s.txSequence ∧ (s.startRxFlush q).staging = s.staging ∧
    (s.startRxFlush q).txq = s.txq ∧ (s.startRxFlush q).txf = s.txf ∧ (s.startRxFlush q).reports = s.reports ∧
    (s.startRxFlush q).host = s.host ∧ (s.startRxFlush q).pending = s.pending := by
  unfold State.startRxFlush
  dsimp only
  split <;> simp

/-- The acceptance of a byte leaves the receive side, the window, staging and the host port alone (R140). -/
@[simp] theorem State.acceptByte_frame (a : Attempt) (e : TxEntry) :
    (s.acceptByte a e).inReset = s.inReset ∧ (s.acceptByte a e).time = s.time ∧ (s.acceptByte a e).rxf = s.rxf ∧
    (s.acceptByte a e).channels = s.channels ∧ (s.acceptByte a e).rxq = s.rxq ∧ (s.acceptByte a e).window = s.window ∧
    (s.acceptByte a e).staging = s.staging ∧ (s.acceptByte a e).host = s.host ∧
    (s.acceptByte a e).pending = s.pending ∧ (s.acceptByte a e).txf.lineTx = s.txf.lineTx := by
  unfold State.acceptByte
  dsimp only
  split <;> simp [State.completeEntry, State.setHead]

/-- A retry leaves everything but the transmit side alone (R142). -/
@[simp] theorem State.retryEntry_frame (u : TxQueueId) :
    (s.retryEntry u).inReset = s.inReset ∧ (s.retryEntry u).time = s.time ∧ (s.retryEntry u).rxf = s.rxf ∧
    (s.retryEntry u).channels = s.channels ∧ (s.retryEntry u).txSequence = s.txSequence ∧
    (s.retryEntry u).rxq = s.rxq ∧ (s.retryEntry u).window = s.window ∧ (s.retryEntry u).staging = s.staging ∧
    (s.retryEntry u).cmd = s.cmd ∧ (s.retryEntry u).host = s.host ∧ (s.retryEntry u).pending = s.pending ∧
    (s.retryEntry u).txf.lineTx = s.txf.lineTx := by
  unfold State.retryEntry
  split <;> simp

/-- The end of a cut returns one holder, and may complete SOFT_RESET (R147). -/
@[simp] theorem State.endCut_frame (u : TxQueueId) :
    (s.endCut u).inReset = s.inReset ∧ (s.endCut u).time = s.time ∧ (s.endCut u).rxf = s.rxf ∧
    (s.endCut u).channels = s.channels ∧ (s.endCut u).txSequence = s.txSequence ∧ (s.endCut u).rxq = s.rxq ∧
    (s.endCut u).window = s.window ∧ (s.endCut u).staging = s.staging ∧ (s.endCut u).reports = s.reports ∧
    (s.endCut u).host = s.host ∧ (s.endCut u).pending = s.pending ∧ (s.endCut u).txf.lineTx = s.txf.lineTx := by
  simp [State.endCut]

/-- LINE_TX off touches the transmit framer (R144). -/
@[simp] theorem State.lineTxOff_frame :
    s.lineTxOff.inReset = s.inReset ∧ s.lineTxOff.time = s.time ∧ s.lineTxOff.pool = s.pool ∧
    s.lineTxOff.rxf = s.rxf ∧ s.lineTxOff.channels = s.channels ∧ s.lineTxOff.txSequence = s.txSequence ∧
    s.lineTxOff.rxq = s.rxq ∧ s.lineTxOff.window = s.window ∧ s.lineTxOff.staging = s.staging ∧
    s.lineTxOff.txq = s.txq ∧ s.lineTxOff.reports = s.reports ∧ s.lineTxOff.cmd = s.cmd ∧ s.lineTxOff.irq = s.irq ∧
    s.lineTxOff.host = s.host ∧ s.lineTxOff.pending = s.pending := by
  unfold State.lineTxOff
  dsimp only
  split <;> simp

/-- LINE_TX on touches the transmit side (R144). -/
@[simp] theorem State.lineTxOn_frame :
    s.lineTxOn.inReset = s.inReset ∧ s.lineTxOn.time = s.time ∧ s.lineTxOn.rxf = s.rxf ∧
    s.lineTxOn.channels = s.channels ∧ s.lineTxOn.txSequence = s.txSequence ∧ s.lineTxOn.rxq = s.rxq ∧
    s.lineTxOn.window = s.window ∧ s.lineTxOn.staging = s.staging ∧ s.lineTxOn.host = s.host ∧
    s.lineTxOn.pending = s.pending := by
  simp [State.lineTxOn]

/-- LINE_RX off touches the framer and the pool (R36). -/
@[simp] theorem State.lineRxOff_frame :
    s.lineRxOff.inReset = s.inReset ∧ s.lineRxOff.time = s.time ∧ s.lineRxOff.channels = s.channels ∧
    s.lineRxOff.txSequence = s.txSequence ∧ s.lineRxOff.rxq = s.rxq ∧ s.lineRxOff.window = s.window ∧
    s.lineRxOff.staging = s.staging ∧ s.lineRxOff.txq = s.txq ∧ s.lineRxOff.txf = s.txf ∧
    s.lineRxOff.reports = s.reports ∧ s.lineRxOff.cmd = s.cmd ∧ s.lineRxOff.irq = s.irq ∧ s.lineRxOff.host = s.host ∧
    s.lineRxOff.pending = s.pending := by
  simp [State.lineRxOff]

/-- A removal of SOFT_RESET touches the transmit side and the pool (R128). -/
@[simp] theorem State.discardOldest_frame (u : TxQueueId) :
    (s.discardOldest u).inReset = s.inReset ∧ (s.discardOldest u).time = s.time ∧ (s.discardOldest u).rxf = s.rxf ∧
    (s.discardOldest u).channels = s.channels ∧ (s.discardOldest u).txSequence = s.txSequence ∧
    (s.discardOldest u).rxq = s.rxq ∧ (s.discardOldest u).window = s.window ∧
    (s.discardOldest u).staging = s.staging ∧ (s.discardOldest u).reports = s.reports ∧
    (s.discardOldest u).cmd = s.cmd ∧ (s.discardOldest u).irq = s.irq ∧ (s.discardOldest u).host = s.host ∧
    (s.discardOldest u).pending = s.pending ∧ (s.discardOldest u).txf.lineTx = s.txf.lineTx := by
  unfold State.discardOldest
  dsimp only
  split <;> simp

theorem onRxQueue_pending (f : RxQueue → RxQueue) (o : Operands) (s : State) :
    (onRxQueue f o s).1.pending = s.pending := by
  unfold onRxQueue
  split <;> rfl

theorem onRxQueueIf_pending (f : RxQueue → Option RxQueue) (o : Operands) (s : State) :
    (onRxQueueIf f o s).1.pending = s.pending := by
  unfold onRxQueueIf
  split
  · rfl
  · split <;> rfl

/-- Settles O2: every row has one next state, whose queue of waiting commands is that of the state it found. The rows
that write blocks directly keep it by the frames of what they are made of, and the commands by those of their owners. -/
theorem everyCommandGoesOnAndKeepsTheQueue : Obligations.EveryCommandGoesOnAndKeepsTheQueue := by
  intro c s
  have hrow {f : State → State} (hf : (f s).pending = s.pending) :
      ∃ t, Host.Outcome.next (φ := Fault) (ρ := Refusal) (s.unlessReset f) = .next t ∧ t.pending = s.pending :=
    ⟨_, rfl, State.unlessReset_keeps (P := fun u => u.pending = s.pending) rfl fun _ => hf⟩
  have hshort {code : Word} {owner : Operands → State → State × Result}
      (howner : ∀ o s, (owner o s).1.pending = s.pending) :
      ∃ t, Host.Outcome.next (φ := Fault) (ρ := Refusal) (shortCommand code owner s) = .next t ∧
        t.pending = s.pending := ⟨_, rfl, shortCommand_pending howner⟩
  refine exec_of_rows (Q := fun o => ∃ t, o = .next t ∧ t.pending = s.pending) c (fun d hself _ => ?_)
    (fun addr value => hrow (s.storeWord_pending addr value)) (fun code => hshort fun _ _ => rfl)
  cases d
  case registerWrite | unknownCommand => cases hself
  case hardwareReset | powerUp | resetNRelease => exact ⟨_, rfl, rfl⟩
  case tclkEdge => exact hrow (by split <;> simp)
  case coarseBoundary => exact hrow (by split <;> simp)
  case startTimeReached => exact hrow (by split; split; all_goals simp)
  case stopTimeReached => exact hrow (by split; split; all_goals simp)
  case launchTimeReached => exact hrow (by split; rfl; split; rfl; split <;> simp)
  case deadlineExpiry => exact hrow (by split; split; split; simp; split; all_goals simp)
  case lineByte => exact hrow (by split; split; all_goals simp)
  case ltrdy =>
    refine hrow ?_
    split
    · rfl
    · split <;> simp [State.beginAttempt, State.setHead]
    · split
      · simp
      · split <;> simp
  case ltabt =>
    refine hrow ?_
    split
    · rfl
    · rfl
    · split
      · simp
      · split
        · rfl
        · split <;> simp
  case dataPortRead => exact hrow s.dataPortRead_pending
  case dataPortWrite via value _ => exact hrow (s.dataPortWrite_pending value)
  case timeCHiRead | evtStatusWrite | evtEnableWrite | qEventsWrite | winStatusWrite | winCtrlWrite | stgStatusWrite |
    cmdStatusWrite => exact hrow rfl
  case timeSet => exact hshort fun _ _ => rfl
  case timeDivisor => exact hshort fun o s => by unfold timeDivisor; split <;> rfl
  case timeAdjust => exact hshort fun o s => by unfold timeAdjust; split_ifs <;> rfl
  case refPop => exact hshort fun o s => by unfold refPop; split <;> rfl
  case reportPop => exact hshort fun o s => by unfold reportPop; split <;> rfl
  case poolConfig => exact hshort fun o s => by unfold poolConfigure; split <;> simp
  case lineRx =>
    refine hshort fun o s => ?_
    unfold lineRxSet
    split
    · dsimp only
      split_ifs <;> simp [State.lineRxOn, State.clearFramerCounters]
    · rfl
  case chWrite => exact hshort fun o s => by unfold chWrite; split <;> rfl
  case chRead => exact hshort fun o s => by unfold chRead; split <;> rfl
  case chSeqReset => exact hshort fun o s => by unfold chSeqReset; split <;> rfl
  case txSeqSet => exact hshort fun o s => by unfold txSeqSet; split <;> rfl
  case rxConfig => exact hshort fun o s => by unfold rxConfigure; split; rfl; dsimp only; split <;> rfl
  case rxWindow => exact hshort fun o s => by unfold rxSetWindow; split; rfl; split_ifs <;> rfl
  case rxEnable => exact hshort fun o s => onRxQueueIf_pending _ o s
  case rxRearm => exact hshort (onRxQueueIf_pending _)
  case rxResume => exact hshort (onRxQueueIf_pending _)
  case rxDisable => exact hshort (onRxQueue_pending _)
  case rxAckBatch => exact hshort (onRxQueue_pending _)
  case rxFlush => exact hrow (by split; rfl; dsimp only; split <;> simp)
  case rxFlushRemoval => exact hrow (by split <;> simp)
  case rxOpen => exact hshort fun o s => by unfold rxOpen; split; rfl; split_ifs <;> rfl
  case rxRelease => exact hshort fun o s => by unfold rxRelease; split <;> simp
  case rxClose => exact hshort fun o s => by unfold rxClose; split <;> rfl
  case txConfig => exact hshort fun o s => by unfold txConfigure; split; rfl; split <;> rfl
  case txBegin => exact hshort fun o s => by unfold txBegin; split; rfl; split; rfl; split_ifs <;> simp
  case txSubmit => exact hshort fun o s => by unfold txSubmit; split; rfl; dsimp only; split_ifs <;> simp
  case txAbandon => exact hshort fun o s => by unfold txAbandon; split <;> simp
  case txCancel => exact hshort fun o s => by unfold txCancel; split; rfl; split; rfl; split <;> simp
  case txPause => exact hshort fun o s => by unfold txPause; split <;> rfl
  case txStart => exact hshort fun o s => by unfold txStart; split <;> simp
  case txFlush => exact hrow (by split; rfl; dsimp only; split <;> simp)
  case txFlushRemoval => exact hrow (by split <;> simp)
  case lineTx =>
    refine hshort fun o s => ?_
    unfold lineTxSet
    split
    · rfl
    · dsimp only
      split <;> simp
  case softReset => exact hrow (by split <;> simp)
  case softResetRxRemoval => exact hrow (by split <;> simp)
  case softResetTxRemoval => exact hrow (by split <;> simp)

end Sys2Proof.Machine
end

section
/-! What a step can do, said once: each row leaves what the invariants read as it was, or makes one of the moves listed
here. Every invariant of the model is then kept if the moves keep it. -/

namespace Sys2Proof.Machine

variable {s t : State}

/-! ### States that the invariants cannot tell apart -/

/-- Two states that agree in everything an invariant reads: the rest is operands, results, events, counters, tables and
the host port. -/
structure State.Alike (s t : State) : Prop where
  time : t.time = s.time
  cells : t.pool.freeCells = s.pool.freeCells
  descs : t.pool.freeDescs = s.pool.freeDescs
  rxf : t.rxf.state = s.rxf.state
  rxq : t.rxq = s.rxq
  window : t.window.record.map (·.queue) = s.window.record.map (·.queue)
  staging : t.staging.record.map (·.length) = s.staging.record.map (·.length)
  txq : t.txq = s.txq
  txf : t.txf = s.txf
  reports : t.reports.list = s.reports.list
  running : t.cmd.running = s.cmd.running

@[refl] theorem State.Alike.refl (s : State) : s.Alike s := ⟨rfl, rfl, rfl, rfl, rfl, rfl, rfl, rfl, rfl, rfl, rfl⟩

theorem State.Alike.trans {u : State} (h : s.Alike t) (k : t.Alike u) : s.Alike u :=
  ⟨k.time.trans h.time, k.cells.trans h.cells, k.descs.trans h.descs, k.rxf.trans h.rxf, k.rxq.trans h.rxq,
    k.window.trans h.window, k.staging.trans h.staging, k.txq.trans h.txq, k.txf.trans h.txf,
    k.reports.trans h.reports, k.running.trans h.running⟩

theorem State.alike_acceptCommand (s : State) (code : Word) : s.Alike (s.acceptCommand code) :=
  ⟨rfl, rfl, rfl, rfl, rfl, rfl, rfl, rfl, rfl, rfl, rfl⟩

theorem State.alike_completeCommand (s : State) (r : Result) : s.Alike (s.completeCommand r) :=
  ⟨rfl, rfl, rfl, rfl, rfl, rfl, rfl, rfl, rfl, rfl, rfl⟩

theorem State.alike_refuseCommand (s : State) : s.Alike s.refuseCommand :=
  ⟨rfl, rfl, rfl, rfl, rfl, rfl, rfl, rfl, rfl, rfl, rfl⟩

/-! ### What an event does to one receive queue -/

/-- The transitions of one receive queue that keep its records and its flush flag and that a row makes by itself: the
commands on one queue (R72 to R75, R82, R84, R86), the write of Q_EVENTS (R89) and the two watchers (R76, R77). -/
inductive RxQueue.Adjusts (now : LinkTime) (r : RxQueue) : RxQueue → Prop
  | events (x : BitVec 6) : r.Adjusts now { r with events := x }
  | configure (g : RxConfig) (hoff : r.state = .off) (hempty : r.records = []) : r.Adjusts now { r with config := g }
  | setWindow (w : RxWindow) (hoff : r.state = .off) : r.Adjusts now { r with window := w }
  | enable (hoff : r.state = .off) : r.Adjusts now (r.enable now)
  | disable : r.Adjusts now r.disable
  | acknowledge : r.Adjusts now r.acknowledge
  | rearm {x : RxQueue} (h : r.rearm = some x) : r.Adjusts now x
  | resume {x : RxQueue} (h : r.resume = some x) : r.Adjusts now x
  | startReached {T : LinkTime} (hwatched : r.startWatched = some T) (hreached : T.reachedAt now = true) :
      r.Adjusts now r.startRunning
  | stopReached {T : LinkTime} (hwatched : r.stopWatched = some T) (hreached : T.reachedAt now = true) :
      r.Adjusts now r.reachStop

/-- What a command writes into the time base beside the edges: what is to become pending, the slew, or the reference
list without its oldest entry (R5, R6, R7, R15). -/
inductive TimeBase.Written (b : TimeBase) : TimeBase → Prop
  | set (v : BitVec 32) : b.Written { b with pendingSet := some v }
  | divisor (d : BitVec 13) (hlow : 4 ≤ d.toNat) (hhigh : d.toNat ≤ 4096) : b.Written { b with pendingDivisor := some d }
  | slew (n : Int) (hlow : -32767 ≤ n) (hhigh : n ≤ 32767) : b.Written { b with slew := n }
  | pop (e : RefEntry) (rest : List RefEntry) (h : b.refs = e :: rest) : b.Written { b with refs := rest }

/-! ### The moves -/

/-- The moves of the state, with what the row that makes one has found. -/
inductive State.Moves (s : State) : State → Prop
  -- time, reports, reset
  | writeTime {b : TimeBase} (h : s.time.Written b) : s.Moves { s with time := b }
  | boundary (h : s.time.atBoundary = true) : s.Moves s.takeBoundary
  | countingEdge (h : s.time.atBoundary = false) : s.Moves s.takeCountingEdge
  | popReport {r : Report} {rest : List Report} (h : s.reports.list = r :: rest) :
      s.Moves { s with reports := { s.reports with list := rest } }
  | hardwareReset : s.Moves (State.hardwareReset true s.pending)
  -- the receive side
  | adjustRx (q : RxQueueId) {r : RxQueue} (h : (s.rxQueue q).Adjusts s.time.now r)
      (hoff : s.cmd.running = none ∨ ((s.rxQueue q).state = .off → r.state = .off)) : s.Moves (s.setRxQueue q r)
  | startByte (data : Byte) (eop err : Bool) : s.Moves (s.startByte data eop err)
  | otherByte (data : Byte) (eop err : Bool) : s.Moves (s.otherByte data eop err)
  | lineRxOff : s.Moves s.lineRxOff
  | startRxFlush (q : RxQueueId) (hidle : s.cmd.running = none) : s.Moves ((s.startRxFlush q).completeRxFlush q)
  | rxFlushRemoval (q : RxQueueId) (hflush : (s.rxQueue q).flush = true) :
      s.Moves ((s.removeHeadRecord q).completeRxFlush q)
  | openWindow (q : RxQueueId) (hidle : s.cmd.running = none) (hrecords : (s.rxQueue q).records ≠ []) :
      s.Moves { s with window := { s.window with record := some ⟨q, 0⟩, readPastEnd := false } }
  | releaseWindow {w : OpenRecord} (hidle : s.cmd.running = none) (hopen : s.window.record = some w) :
      s.Moves (s.removeHeadRecord w.queue).closeWindow
  | closeWindow : s.Moves s.closeWindow
  -- staging and the transmit queues
  | beginStaging {r : StagingRecord} (hidle : s.cmd.running = none) (hclosed : s.staging.record = none)
      (hgranted : txReservationGranted s.pool r.cells = true) :
      s.Moves ({ s with staging := { s.staging with record := some r, writePastEnd := false } }.takeReservation r.cells)
  | submit {r : StagingRecord} (hidle : s.cmd.running = none) (hopen : s.staging.record = some r)
      (hroom : (s.txQueue r.queue).entries.length < (s.txQueue r.queue).config.depth)
      (horder : (s.txQueue r.queue).breaksOrder r.launch = false) :
      s.Moves ((s.setTxQueue r.queue { s.txQueue r.queue with
        entries := (s.txQueue r.queue).entries ++ [r.toEntry s.time.now] }).closeStaging.afterTransmit)
  | abandon : s.Moves s.abandonStaging
  | configureTx (u : TxQueueId) {g : TxConfig} (hempty : (s.txQueue u).entries = []) (hretry : g.retryLimit ≤ 7) :
      s.Moves (s.setTxQueue u { s.txQueue u with config := g })
  | pauseTx (u : TxQueueId) : s.Moves (s.setTxQueue u { s.txQueue u with paused := true })
  | startTx (u : TxQueueId) : s.Moves (s.setTxQueue u { s.txQueue u with paused := false }).afterTransmit
  | startTxFlush (u : TxQueueId) (hidle : s.cmd.running = none) :
      s.Moves ((s.setTxQueue u { s.txQueue u with flush := true }).startLong (.txFlush u)).completeTxFlush
  | withdraw (u : TxQueueId) (place : Nat) (r : ReportResult)
      (hallowed : s.cmd.running = none ∨ (s.txQueue u).flush = true)
      (hplace : s.headSending u = true → place ≠ 0) : s.Moves (s.withdrawEntry u place r).afterTransmit
  -- the transmit framer
  | launch (u : TxQueueId) (place : Nat) {e : TxEntry} (hplace : (s.txQueue u).entries[place]? = some e) :
      s.Moves (s.setTxQueue u
        { s.txQueue u with entries := (s.txQueue u).entries.set place { e with due := true } }).afterTransmit
  | expire {u : TxQueueId} {setBack : Bool} (hwaiting : s.txf.state = .waitingLine u true setBack) :
      s.Moves (s.finishEntry u .lateDropped).afterTransmit
  | release {u : TxQueueId} {setBack : Bool} (hwaiting : s.txf.state = .waitingLine u true setBack) :
      s.Moves (s.releaseDeadline u)
  | beginAttempt {u : TxQueueId} {armed setBack : Bool} {e : TxEntry} {rest : List TxEntry}
      (hwaiting : s.txf.state = .waitingLine u armed setBack) (hentries : (s.txQueue u).entries = e :: rest) :
      s.Moves (s.beginAttempt u e).afterTransmit
  | endCut {a : Attempt} (hsending : s.txf.state = .sending a) (hcut : a.cut = true) :
      s.Moves (s.endCut a.queue).afterTransmit
  | acceptByte {a : Attempt} {e : TxEntry} {rest : List TxEntry} (hsending : s.txf.state = .sending a)
      (hcut : a.cut = false) (hentries : (s.txQueue a.queue).entries = e :: rest) : s.Moves (s.acceptByte a e)
  | retry {a : Attempt} {e : TxEntry} {rest : List TxEntry} (hsending : s.txf.state = .sending a)
      (hcut : a.cut = false) (hentries : (s.txQueue a.queue).entries = e :: rest)
      (hretry : e.mayRetry (s.txQueue a.queue).config s.time.now = true) :
      s.Moves (s.retryEntry a.queue).afterTransmit
  | abort {a : Attempt} (hsending : s.txf.state = .sending a) (hcut : a.cut = false) :
      s.Moves (s.finishEntry a.queue .aborted).afterTransmit
  | lineTxOn : s.Moves s.lineTxOn
  | lineTxOff : s.Moves s.lineTxOff
  -- SOFT_RESET
  | acceptSoftReset (hidle : s.cmd.running = none) : s.Moves s.acceptSoftReset
  | softResetRxRemoval (q : RxQueueId) (hsoft : s.softResetting = true) :
      s.Moves ((s.removeHeadRecord q).completeSoftReset.afterTransmit)
  | softResetTxRemoval (u : TxQueueId) (hsoft : s.softResetting = true)
      (hplace : s.oldestNotSending u < (s.txQueue u).entries.length) :
      s.Moves ((s.discardOldest u).completeSoftReset.afterTransmit)

/-- Alike, or one move between states alike. -/
def State.Leads (s t : State) : Prop := s.Alike t ∨ ∃ s' t', s.Alike s' ∧ s'.Moves t' ∧ t'.Alike t

theorem State.Alike.leads (h : s.Alike t) : s.Leads t := .inl h

theorem State.Leads.refl (s : State) : s.Leads s := (State.Alike.refl s).leads

theorem State.Moves.leads (h : s.Moves t) : s.Leads t := .inr ⟨s, t, .refl s, h, .refl t⟩

theorem State.Leads.of_alike {u : State} (h : s.Alike t) (k : t.Leads u) : s.Leads u := by
  obtain k | ⟨t', u', hk, hm, hu⟩ := k
  · exact .inl (h.trans k)
  · exact .inr ⟨t', u', h.trans hk, hm, hu⟩

theorem State.Leads.alike {u : State} (h : s.Leads t) (k : t.Alike u) : s.Leads u := by
  obtain h | ⟨s', t', hs, hm, ht⟩ := h
  · exact .inl (h.trans k)
  · exact .inr ⟨s', t', hs, hm, ht.trans k⟩

/-! ### The rows -/

theorem State.unlessReset_leads {f : State → State} (hf : s.Leads (f s)) : s.Leads (s.unlessReset f) :=
  State.unlessReset_keeps (P := s.Leads) (State.Alike.refl s).leads fun _ => hf

theorem shortCommand_leads {owner : Operands → State → State × Result}
    (howner : ∀ o (s : State), s.cmd.running = none → s.Leads (owner o s).1) (code : Word) :
    s.Leads (shortCommand code owner s) := by
  refine State.unlessReset_leads ?_
  split
  next => exact s.alike_refuseCommand.leads
  next hidle =>
    have hnone : s.cmd.running = none := by simpa [State.busy] using hidle
    exact .of_alike (s.alike_acceptCommand code) ((howner _ (s.acceptCommand code) hnone).alike (State.alike_completeCommand _ _))

/-! ### The owners of the short commands -/

section

variable (o : Operands) (s)

theorem timeDivisor_leads : s.Leads (timeDivisor o s).1 := by
  unfold timeDivisor
  split
  next => exact .refl s
  next d hd =>
    refine (State.Moves.writeTime (.divisor d ?_ ?_)).leads <;>
    · unfold divisorArg at hd
      split at hd
      · cases hd
        simp only [BitVec.toNat_setWidth]
        omega
      · cases hd

theorem timeAdjust_leads : s.Leads (timeAdjust o s).1 := by
  unfold timeAdjust
  split
  next => exact .refl s
  next hmin =>
    split
    next => exact .refl s
    next =>
      have hlow := BitVec.le_toInt o.a
      have hhigh := BitVec.toInt_lt (x := o.a)
      exact (State.Moves.writeTime (.slew o.a.toInt (by omega) (by omega))).leads

theorem refPop_leads : s.Leads (refPop o s).1 := by
  unfold refPop
  split
  next => exact .refl s
  next e rest h => exact (State.Moves.writeTime (.pop e rest h)).leads

theorem reportPop_leads : s.Leads (reportPop o s).1 := by
  unfold reportPop
  split
  next => exact .refl s
  next r rest h => exact (State.Moves.popReport h).leads

theorem poolConfigure_leads : s.Leads (poolConfigure o s).1 := by
  unfold poolConfigure
  split
  next => exact .refl s
  next =>
    refine State.Alike.leads ?_
    constructor <;> simp

theorem lineRxSet_leads : s.Leads (lineRxSet o s).1 := by
  have hclear (u : State) : u.Alike u.clearFramerCounters := ⟨rfl, rfl, rfl, rfl, rfl, rfl, rfl, rfl, rfl, rfl, rfl⟩
  have hon : s.Alike s.lineRxOn := ⟨rfl, rfl, rfl, rfl, rfl, rfl, rfl, rfl, rfl, rfl, rfl⟩
  unfold lineRxSet
  split
  next on clear _ _ =>
    have hturned : s.Leads (if on then s.lineRxOn else s.lineRxOff) := by
      split
      · exact hon.leads
      · exact State.Moves.lineRxOff.leads
    dsimp only
    split
    · exact hturned.alike (hclear _)
    · exact hturned
  next => exact .refl s

/-- The channel table, the transmit sequence table and the operand words are read by no invariant. -/
theorem chWrite_leads : s.Leads (chWrite o s).1 := by
  refine State.Alike.leads ?_
  unfold chWrite
  split <;> constructor <;> rfl

theorem chRead_leads : s.Leads (chRead o s).1 := by
  refine State.Alike.leads ?_
  unfold chRead
  split <;> constructor <;> rfl

theorem chSeqReset_leads : s.Leads (chSeqReset o s).1 := by
  refine State.Alike.leads ?_
  unfold chSeqReset
  split <;> constructor <;> rfl

theorem txSeqSet_leads : s.Leads (txSeqSet o s).1 := by
  refine State.Alike.leads ?_
  unfold txSeqSet
  split <;> constructor <;> rfl

theorem onRxQueue_leads (hidle : s.cmd.running = none) {f : RxQueue → RxQueue}
    (hf : ∀ r : RxQueue, r.Adjusts s.time.now (f r)) : s.Leads (onRxQueue f o s).1 := by
  unfold onRxQueue
  split
  · exact .refl s
  · exact (State.Moves.adjustRx _ (hf _) (.inl hidle)).leads

theorem onRxQueueIf_leads (hidle : s.cmd.running = none) {f : RxQueue → Option RxQueue}
    (hf : ∀ r x : RxQueue, f r = some x → r.Adjusts s.time.now x) : s.Leads (onRxQueueIf f o s).1 := by
  unfold onRxQueueIf
  split
  · exact .refl s
  · split
    next => exact .refl s
    next x hx => exact (State.Moves.adjustRx _ (hf _ x hx) (.inl hidle)).leads

theorem RxQueue.adjusts_of_enableIfOff (now : LinkTime) {r x : RxQueue} (h : r.enableIfOff now = some x) :
    r.Adjusts now x := by
  unfold RxQueue.enableIfOff at h
  split at h
  next hoff =>
    cases h
    exact .enable hoff
  next => cases h

theorem rxConfigure_leads : s.Leads (rxConfigure o s).1 := by
  unfold rxConfigure
  split
  next => exact .refl s
  next q config _ =>
    dsimp only
    split
    next h => exact (State.Moves.adjustRx q (.configure config h.1 h.2) (.inr id)).leads
    next => exact .refl s

theorem rxSetWindow_leads : s.Leads (rxSetWindow o s).1 := by
  unfold rxSetWindow
  split
  next => exact .refl s
  next q w _ =>
    split
    next => exact .refl s
    next hoff =>
      split
      next => exact .refl s
      next => exact (State.Moves.adjustRx q (.setWindow w (by simpa using hoff)) (.inr id)).leads

theorem rxOpen_leads (hidle : s.cmd.running = none) : s.Leads (rxOpen o s).1 := by
  unfold rxOpen
  split
  next => exact .refl s
  next q _ =>
    split
    next => exact .refl s
    next =>
      split
      next => exact .refl s
      next hrecords => exact (State.Moves.openWindow q hidle (by simpa using hrecords)).leads

theorem rxRelease_leads (hidle : s.cmd.running = none) : s.Leads (rxRelease o s).1 := by
  unfold rxRelease
  split
  next => exact .refl s
  next w hopen => exact (State.Moves.releaseWindow hidle hopen).leads

theorem rxClose_leads : s.Leads (rxClose o s).1 := by
  unfold rxClose
  split
  next => exact .refl s
  next => exact State.Moves.closeWindow.leads

theorem txBegin_leads (hidle : s.cmd.running = none) : s.Leads (txBegin o s).1 := by
  unfold txBegin
  split
  next => exact .refl s
  next hclosed =>
    split
    next => exact .refl s
    next r _ =>
      split
      next => exact .refl s
      next =>
        split
        next hgranted => exact (State.Moves.beginStaging hidle (by simpa using hclosed) hgranted).leads
        next => exact .refl s

theorem txSubmit_leads (hidle : s.cmd.running = none) : s.Leads (txSubmit o s).1 := by
  unfold txSubmit
  split
  next => exact .refl s
  next r hopen =>
    dsimp only
    split
    next => exact .refl s
    next =>
      split
      next => exact .refl s
      next hroom =>
        split
        next => exact .refl s
        next horder => exact (State.Moves.submit hidle hopen (by simpa using hroom) (by simpa using horder)).leads

theorem txAbandon_leads : s.Leads (txAbandon o s).1 := by
  unfold txAbandon
  split
  · exact State.Moves.abandon.leads
  · exact .refl s

theorem txConfigArgs_retryLimit_le {u : TxQueueId} {g : TxConfig} (h : txConfigArgs o = some (u, g)) :
    g.retryLimit ≤ 7 := by
  simp only [txConfigArgs, Option.bind_eq_bind, Option.bind_eq_some_iff, Option.pure_def, Option.some.injEq,
    Prod.mk.injEq] at h
  obtain ⟨_, _, _, _, _, _, limit, hlimit, _, rfl⟩ := h
  exact (numberArg_eq_some.mp hlimit).2.2

theorem txConfigure_leads : s.Leads (txConfigure o s).1 := by
  unfold txConfigure
  split
  next => exact .refl s
  next u g hargs =>
    split
    next hempty =>
      exact (State.Moves.configureTx u (by simpa using hempty) (txConfigArgs_retryLimit_le o hargs)).leads
    next => exact .refl s

theorem txPause_leads : s.Leads (txPause o s).1 := by
  unfold txPause
  split
  · exact .refl s
  · exact (State.Moves.pauseTx _).leads

theorem txStart_leads : s.Leads (txStart o s).1 := by
  unfold txStart
  split
  · exact .refl s
  · exact (State.Moves.startTx _).leads

theorem txCancel_leads (hidle : s.cmd.running = none) : s.Leads (txCancel o s).1 := by
  unfold txCancel
  split
  next => exact .refl s
  next u _ =>
    split
    next => exact .refl s
    next place _ =>
      split
      next => exact .refl s
      next hnot => exact (State.Moves.withdraw u place .cancelled (.inl hidle) (by simpa using hnot)).leads

theorem lineTxSet_leads : s.Leads (lineTxSet o s).1 := by
  unfold lineTxSet
  split
  next => exact .refl s
  next =>
    dsimp only
    split
    · exact State.Moves.lineTxOn.leads
    · exact State.Moves.lineTxOff.leads

end

/-! ### What a row and a step can do -/

theorem State.alike_dataPortRead (s : State) : s.Alike s.dataPortRead := by
  unfold State.dataPortRead
  split
  next => constructor <;> rfl
  next w hopen =>
    dsimp only
    split
    · exact ⟨rfl, rfl, rfl, rfl, rfl, by simp [State.returnWord, hopen], rfl, rfl, rfl, rfl, rfl⟩
    · constructor <;> rfl

theorem State.alike_dataPortWrite (s : State) (value : Word) : s.Alike (s.dataPortWrite value) := by
  unfold State.dataPortWrite
  split
  next => constructor <;> rfl
  next r hopen =>
    split
    · exact ⟨rfl, rfl, rfl, rfl, rfl, rfl, by simp [hopen], rfl, rfl, rfl, rfl⟩
    · constructor <;> rfl

theorem State.alike_storeWord (s : State) (addr : BitVec 6) (value : Word) : s.Alike (s.storeWord addr value) := by
  unfold State.storeWord
  split_ifs <;> constructor <;> rfl

/-- Every row leads from the state it finds to the one it leaves by at most one move. -/
theorem exec_leads {c : Instr} (hexec : exec c s = .next t) : s.Leads t := by
  have hrow {f : State → State} (hf : s.Leads (f s)) :
      ∀ t, Host.Outcome.next (φ := Fault) (ρ := Refusal) (s.unlessReset f) = .next t → s.Leads t := by
    rintro t ⟨⟩
    exact State.unlessReset_leads hf
  have hquiet {f : State → State} (hf : s.Alike (f s)) := hrow hf.leads
  have hshort {code : Word} {owner : Operands → State → State × Result}
      (howner : ∀ o (s : State), s.cmd.running = none → s.Leads (owner o s).1) :
      ∀ t, Host.Outcome.next (φ := Fault) (ρ := Refusal) (shortCommand code owner s) = .next t → s.Leads t := by
    rintro t ⟨⟩
    exact shortCommand_leads howner code
  refine exec_of_rows (Q := fun o => ∀ t, o = .next t → s.Leads t) c (fun d hself _ => ?_)
    (fun addr value => hquiet (s.alike_storeWord addr value)) (fun code => hshort fun _ s _ => .refl s) t hexec
  cases d
  case registerWrite | unknownCommand => cases hself
  -- rows that no invariant notices
  case timeCHiRead | evtStatusWrite | evtEnableWrite | winStatusWrite | winCtrlWrite | stgStatusWrite | cmdStatusWrite =>
    exact hquiet ⟨rfl, rfl, rfl, rfl, rfl, rfl, rfl, rfl, rfl, rfl, rfl⟩
  case dataPortRead => exact hquiet s.alike_dataPortRead
  case dataPortWrite _ value _ => exact hquiet (s.alike_dataPortWrite value)
  -- the reset pin
  case hardwareReset | powerUp =>
    rintro t ⟨⟩
    exact State.Moves.hardwareReset.leads
  case resetNRelease =>
    rintro t ⟨⟩
    exact State.Alike.leads ⟨rfl, rfl, rfl, rfl, rfl, rfl, rfl, rfl, rfl, rfl, rfl⟩
  -- time
  case tclkEdge =>
    refine hrow ?_
    split
    next h => exact (State.Moves.boundary h).leads
    next h => exact (State.Moves.countingEdge (by simpa using h)).leads
  case coarseBoundary =>
    refine hrow ?_
    split
    next h => exact (State.Moves.boundary h).leads
    next => exact .refl s
  case startTimeReached q _ =>
    refine hrow ?_
    split
    next T hwatched =>
      split
      next hreached =>
        refine (State.Moves.adjustRx q (.startReached hwatched hreached) (.inr fun hoff => ?_)).leads
        simp [RxQueue.startWatched, hoff] at hwatched
      next => exact .refl s
    next => exact .refl s
  case stopTimeReached q _ =>
    refine hrow ?_
    split
    next T hwatched =>
      split
      next hreached =>
        refine (State.Moves.adjustRx q (.stopReached hwatched hreached) (.inr fun hoff => ?_)).leads
        simp [RxQueue.stopWatched, hoff] at hwatched
      next => exact .refl s
    next => exact .refl s
  case launchTimeReached u place _ =>
    refine hrow ?_
    split
    next => exact .refl s
    next e hplace =>
      split
      next => exact .refl s
      next =>
        split
        next => exact (State.Moves.launch u place.val hplace).leads
        next => exact .refl s
  case deadlineExpiry =>
    refine hrow ?_
    split
    next u setBack hwaiting =>
      split
      next =>
        split
        next => exact (State.Moves.expire hwaiting).leads
        next =>
          split
          next => exact (State.Moves.release hwaiting).leads
          next => exact .refl s
      next => exact .refl s
    next => exact .refl s
  -- the two lines
  case lineByte data sop eop err _ =>
    refine hrow ?_
    split
    next =>
      split
      next => exact (State.Moves.startByte data eop err).leads
      next => exact (State.Moves.otherByte data eop err).leads
    next => exact .refl s
  case ltrdy =>
    refine hrow ?_
    split
    next => exact .refl s
    next hwaiting =>
      split
      next => exact .refl s
      next hentries => exact (State.Moves.beginAttempt hwaiting hentries).leads
    next hsending =>
      split
      next hcut => exact (State.Moves.endCut hsending hcut).leads
      next hcut =>
        split
        next => exact .refl s
        next hentries => exact (State.Moves.acceptByte hsending (by simpa using hcut) hentries).leads
  case ltabt =>
    refine hrow ?_
    split
    next => exact .refl s
    next => exact .refl s
    next hsending =>
      split
      next hcut => exact (State.Moves.endCut hsending hcut).leads
      next hcut =>
        split
        next => exact .refl s
        next hentries =>
          split
          next hretry => exact (State.Moves.retry hsending (by simpa using hcut) hentries hretry).leads
          next => exact (State.Moves.abort hsending (by simpa using hcut)).leads
  -- commands on the time base, the pool, the channels and the reports
  case timeSet => exact hshort fun o s _ => (State.Moves.writeTime (.set (coarseArg o.a o.b))).leads
  case timeDivisor => exact hshort fun o s _ => timeDivisor_leads s o
  case timeAdjust => exact hshort fun o s _ => timeAdjust_leads s o
  case refPop => exact hshort fun o s _ => refPop_leads s o
  case reportPop => exact hshort fun o s _ => reportPop_leads s o
  case poolConfig => exact hshort fun o s _ => poolConfigure_leads s o
  case lineRx => exact hshort fun o s _ => lineRxSet_leads s o
  case chWrite => exact hshort fun o s _ => chWrite_leads s o
  case chRead => exact hshort fun o s _ => chRead_leads s o
  case chSeqReset => exact hshort fun o s _ => chSeqReset_leads s o
  case txSeqSet => exact hshort fun o s _ => txSeqSet_leads s o
  -- the receive queues and the window
  case qEventsWrite value _ =>
    refine hrow (State.Moves.leads ?_)
    exact .adjustRx s.host.qsel (.events (clearOnes (s.rxQueue s.host.qsel).events value)) (.inr id)
  case rxConfig => exact hshort fun o s _ => rxConfigure_leads s o
  case rxWindow => exact hshort fun o s _ => rxSetWindow_leads s o
  case rxEnable =>
    exact hshort fun o s hidle => onRxQueueIf_leads s o hidle fun _ _ h => RxQueue.adjusts_of_enableIfOff _ h
  case rxDisable => exact hshort fun o s hidle => onRxQueue_leads s o hidle fun _ => .disable
  case rxRearm => exact hshort fun o s hidle => onRxQueueIf_leads s o hidle fun _ _ h => .rearm h
  case rxAckBatch => exact hshort fun o s hidle => onRxQueue_leads s o hidle fun _ => .acknowledge
  case rxResume => exact hshort fun o s hidle => onRxQueueIf_leads s o hidle fun _ _ h => .resume h
  case rxOpen => exact hshort fun o s hidle => rxOpen_leads s o hidle
  case rxRelease => exact hshort fun o s hidle => rxRelease_leads s o hidle
  case rxClose => exact hshort fun o s _ => rxClose_leads s o
  -- staging, the transmit queues and the transmit framer
  case txConfig => exact hshort fun o s _ => txConfigure_leads s o
  case txBegin => exact hshort fun o s hidle => txBegin_leads s o hidle
  case txSubmit => exact hshort fun o s hidle => txSubmit_leads s o hidle
  case txAbandon => exact hshort fun o s _ => txAbandon_leads s o
  case txCancel => exact hshort fun o s hidle => txCancel_leads s o hidle
  case txPause => exact hshort fun o s _ => txPause_leads s o
  case txStart => exact hshort fun o s _ => txStart_leads s o
  case lineTx => exact hshort fun o s _ => lineTxSet_leads s o
  -- the long commands and their removals
  case rxFlush =>
    refine hrow ?_
    split
    next => exact s.alike_refuseCommand.leads
    next hidle =>
      have hnone : (s.acceptCommand 0x37).cmd.running = none := by simpa [State.busy] using hidle
      refine .of_alike (s.alike_acceptCommand 0x37) ?_
      dsimp only
      split
      next => exact (State.alike_completeCommand _ _).leads
      next q _ => exact (State.Moves.startRxFlush q hnone).leads
  case rxFlushRemoval q _ =>
    refine hrow ?_
    split
    next hflush => exact (State.Moves.rxFlushRemoval q hflush).leads
    next => exact .refl s
  case txFlush =>
    refine hrow ?_
    split
    next => exact s.alike_refuseCommand.leads
    next hidle =>
      have hnone : (s.acceptCommand 0x47).cmd.running = none := by simpa [State.busy] using hidle
      refine .of_alike (s.alike_acceptCommand 0x47) ?_
      dsimp only
      split
      next => exact (State.alike_completeCommand _ _).leads
      next u _ => exact (State.Moves.startTxFlush u hnone).leads
  case txFlushRemoval u _ =>
    refine hrow ?_
    split
    next hflush =>
      refine (State.Moves.withdraw u _ .flushed (.inr hflush) fun hsending => ?_).leads
      simp [State.oldestNotSending, hsending]
    next => exact .refl s
  case softReset =>
    refine hrow ?_
    split
    next => exact s.alike_refuseCommand.leads
    next hidle =>
      have hnone : (s.acceptCommand 0x60).cmd.running = none := by simpa [State.busy] using hidle
      exact .of_alike (s.alike_acceptCommand 0x60) (State.Moves.acceptSoftReset hnone).leads
  case softResetRxRemoval q _ =>
    refine hrow ?_
    split
    next h => exact (State.Moves.softResetRxRemoval q (by simp_all)).leads
    next => exact .refl s
  case softResetTxRemoval u _ =>
    refine hrow ?_
    split
    next h => exact (State.Moves.softResetTxRemoval u (by simp_all) (by simp_all)).leads
    next => exact .refl s

theorem State.alike_pending (s : State) (waiting : List Instr) : s.Alike { s with pending := waiting } :=
  ⟨rfl, rfl, rfl, rfl, rfl, rfl, rfl, rfl, rfl, rfl, rfl⟩

/-- So does every step: the queue of waiting commands is no part of an invariant. -/
theorem step_leads (hstep : step s = .next t) : s.Leads t := by
  unfold step at hstep
  split at hstep
  next =>
    cases hstep
    exact .refl s
  next c rest _ => exact .of_alike (s.alike_pending rest) (exec_leads hstep)

/-- What states alike share and every move keeps, every step keeps. -/
theorem step_keeps {P : State → Prop} (halike : ∀ s t : State, s.Alike t → P s → P t)
    (hmoves : ∀ s t : State, s.Moves t → P s → P t) (hstep : step s = .next t) (hs : P s) : P t := by
  obtain h | ⟨s', t', hs', hm, ht⟩ := step_leads hstep
  · exact halike s t h hs
  · exact halike t' t ht (hmoves s' t' hm (halike s s' hs' hs))

end Sys2Proof.Machine
end

section
/-! Proofs about the ranges of the time base (01) and the bounds of the reference list and of the report list (R14,
R150). -/

namespace Sys2Proof.Machine

variable {s : State} {b : TimeBase}

/-! ### The edges keep the ranges of the time base (R1, R2, R3, R8) -/

/-- The ranges look at the counters, the divisor in force and pending, the slew and the first edge. -/
theorem TimeBase.InRange.congr {b c : TimeBase} (h : b.InRange) (hnow : c.now = b.now)
    (hdivisor : c.divisor = b.divisor) (hpending : c.pendingDivisor = b.pendingDivisor) (hslew : c.slew = b.slew)
    (hfirst : c.firstEdge = b.firstEdge) : c.InRange := by
  simpa only [TimeBase.InRange, hnow, hdivisor, hpending, hslew, hfirst] using h

/-- A divisor that applies at a boundary is one in range. -/
theorem TimeBase.InRange.nextDivisor (h : b.InRange) :
    4 ≤ (b.pendingDivisor.getD b.divisor).toNat ∧ (b.pendingDivisor.getD b.divisor).toNat ≤ 4096 := by
  obtain ⟨hlow, hhigh, -, -, -, -, hpending⟩ := h
  cases hd : b.pendingDivisor with
  | none => exact ⟨hlow, hhigh⟩
  | some d => exact hpending d hd

/-- A boundary starts a tick at fine 0 with a divisor in range (R2, R4). -/
theorem TimeBase.InRange.boundary (h : b.InRange) : b.boundary.InRange := by
  have hnext := h.nextDivisor
  obtain ⟨-, -, -, -, hslewLow, hslewHigh, -⟩ := h
  unfold TimeBase.boundary TimeBase.InRange
  have hzero : (0 : BitVec 12).toNat < (b.pendingDivisor.getD b.divisor).toNat := by
    rw [show (0 : BitVec 12).toNat = 0 from rfl]
    omega
  cases b.pendingSet
  · exact ⟨hnext.1, hnext.2, hzero, fun _ => rfl, hslewLow, hslewHigh, by simp⟩
  · exact ⟨hnext.1, hnext.2, hzero, fun _ => rfl, by simp, by simp, by simp⟩

/-- An edge inside a tick stays below the divisor, since the fine counter does not stand at D-1 (R1, R3, R8). -/
theorem TimeBase.InRange.countEdge (h : b.InRange) (hinside : b.atBoundary = false) : b.countEdge.InRange := by
  obtain ⟨hlow, hhigh, hfine, -, hslewLow, hslewHigh, hpending⟩ := h
  have hnot : b.now.fine.toNat + 1 ≠ b.divisor.toNat := by simpa [TimeBase.atBoundary] using hinside
  unfold TimeBase.countEdge TimeBase.InRange
  split
  · split
    next hpos =>
      have htwo : (2 : BitVec 12).toNat < b.divisor.toNat := by
        rw [show (2 : BitVec 12).toNat = 2 from rfl]
        omega
      exact ⟨hlow, hhigh, htwo, by simp, by dsimp only; omega, by dsimp only; omega, hpending⟩
    next hneg => exact ⟨hlow, hhigh, hfine, by simp, by dsimp only; omega, by dsimp only; omega, hpending⟩
  · have hnext : (b.now.fine + 1).toNat = b.now.fine.toNat + 1 := by
      rw [BitVec.toNat_add_of_lt]
      · rfl
      · simp
        omega
    exact ⟨hlow, hhigh, by dsimp only; omega, by simp, hslewLow, hslewHigh, hpending⟩

@[simp] theorem TimeBase.boundary_refs : b.boundary.refs = b.refs := by
  unfold TimeBase.boundary
  cases b.pendingSet <;> rfl

@[simp] theorem TimeBase.countEdge_refs : b.countEdge.refs = b.refs := by
  unfold TimeBase.countEdge
  split_ifs <;> rfl

/-! ### The time base as a whole -/

/-- The ranges of the time base and the bound of its reference list (R14). -/
def TimeBase.Bounded (b : TimeBase) : Prop := b.InRange ∧ b.refs.length ≤ 8

theorem TimeBase.Bounded.boundary (h : b.Bounded) : b.boundary.Bounded := ⟨h.1.boundary, by simpa using h.2⟩

theorem TimeBase.Bounded.countEdge (h : b.Bounded) (hinside : b.atBoundary = false) : b.countEdge.Bounded :=
  ⟨h.1.countEdge hinside, by simpa using h.2⟩

theorem TimeBase.Bounded.reset : TimeBase.reset.Bounded :=
  ⟨⟨by decide, by decide, by decide, by decide, by decide, by decide, by simp [TimeBase.reset]⟩, by decide⟩

/-- What the commands write stays in range, and a pop only shortens the list. -/
theorem TimeBase.Bounded.written {c : TimeBase} (h : b.Bounded) (hwritten : b.Written c) : c.Bounded := by
  obtain ⟨⟨hlow, hhigh, hfine, hfirst, hslewLow, hslewHigh, hpending⟩, hrefs⟩ := h
  cases hwritten with
  | set v => exact ⟨⟨hlow, hhigh, hfine, hfirst, hslewLow, hslewHigh, hpending⟩, hrefs⟩
  | divisor d hdLow hdHigh =>
    refine ⟨⟨hlow, hhigh, hfine, hfirst, hslewLow, hslewHigh, ?_⟩, hrefs⟩
    rintro _ ⟨⟩
    exact ⟨hdLow, hdHigh⟩
  | slew n hnLow hnHigh => exact ⟨⟨hlow, hhigh, hfine, hfirst, hnLow, hnHigh, hpending⟩, hrefs⟩
  | pop e rest hlist =>
    have hshorter : rest.length ≤ 8 := by
      rw [hlist, List.length_cons] at hrefs
      omega
    exact ⟨⟨hlow, hhigh, hfine, hfirst, hslewLow, hslewHigh, hpending⟩, hshorter⟩

/-- The end of a packet with storage settles the storage first (04, Settling the End). -/
theorem State.settleEnd_of_storage {p : BodyPacket} {bytes : List Byte} (hstorage : p.storage = some bytes)
    (early : Bool) :
    s.settleEnd p early = ((s.settleStorage p (p.outcome early) bytes).settleSequence p (p.outcome early)).settleReference p
      (p.outcome early) := by
  simp only [State.settleEnd, hstorage]

/-- The end of a packet without storage settles the last sequence and the reference alone (R65, R66). -/
theorem State.settleEnd_of_no_storage {p : BodyPacket} (hstorage : p.storage = none) (early : Bool) :
    s.settleEnd p early = (s.settleSequence p (p.outcome early)).settleReference p (p.outcome early) := by
  simp only [State.settleEnd, hstorage]

theorem TimeBase.Bounded.settleReference (p : BodyPacket) (f : RecordFlags) (h : s.time.Bounded) :
    (s.settleReference p f).time.Bounded := by
  unfold State.settleReference
  split
  next e _ =>
    exact ⟨h.1.congr (by simp) (by simp) (by simp) (by simp) (by simp), State.appendReference_refs_length s e h.2⟩
  next => exact h

/-- The end of a packet adds at most one reference, within the bound of the list. -/
theorem TimeBase.Bounded.settleEnd (p : BodyPacket) (early : Bool) (h : s.time.Bounded) :
    (s.settleEnd p early).time.Bounded := by
  cases hstorage : p.storage with
  | none =>
    rw [State.settleEnd_of_no_storage hstorage]
    exact TimeBase.Bounded.settleReference p _ (by simpa using h)
  | some bytes =>
    rw [State.settleEnd_of_storage hstorage]
    exact TimeBase.Bounded.settleReference p _ (by simpa using h)

theorem TimeBase.Bounded.startByte (data : Byte) (eop err : Bool) (h : s.time.Bounded) :
    (s.startByte data eop err).time.Bounded := by
  unfold State.startByte
  split <;> simp only [State.beginPacket_frame]
  case h_1 | h_2 | h_3 => exact h
  case h_4 p _ => exact h.settleEnd p true

theorem TimeBase.Bounded.headerByte (p : HeaderPacket) (data : Byte) (eop err : Bool) (h : s.time.Bounded) :
    (s.headerByte p data eop err).time.Bounded := by
  unfold State.headerByte
  dsimp only
  split
  · split
    next header _ =>
      have hclassified : (s.classify header).1.time.Bounded := by simpa using h
      unfold State.goodHeader
      dsimp only
      split
      · exact hclassified.settleEnd _ false
      · exact hclassified
    next => exact h
  · split <;> exact h

theorem TimeBase.Bounded.otherByte (data : Byte) (eop err : Bool) (h : s.time.Bounded) :
    (s.otherByte data eop err).time.Bounded := by
  unfold State.otherByte
  split
  next => exact h
  next => split <;> exact h
  next p _ => exact h.headerByte p data eop err
  next p _ =>
    dsimp only
    split
    · exact h.settleEnd _ false
    · exact h

/-! ### The report list (R150, R151) -/

/-- The report list has its 32 places at most. -/
def State.ReportsBounded (s : State) : Prop := s.reports.list.length ≤ 32

theorem State.ReportsBounded.appendReport (r : Report) (h : s.ReportsBounded) : (s.appendReport r).ReportsBounded := by
  unfold State.ReportsBounded at *
  rw [State.appendReport_list]
  split
  · rw [List.length_append, List.length_singleton]
    omega
  · exact h

theorem State.ReportsBounded.leaveWithReport (u : TxQueueId) (place : Nat) (r : ReportResult) (h : s.ReportsBounded) :
    (s.leaveWithReport u place r).ReportsBounded := by
  unfold State.leaveWithReport
  split
  next => exact h
  next e _ => simpa [State.ReportsBounded] using h.appendReport (reportOf u e r)

theorem State.ReportsBounded.finishEntry (u : TxQueueId) (r : ReportResult) (h : s.ReportsBounded) :
    (s.finishEntry u r).ReportsBounded := h.leaveWithReport u 0 r

theorem State.ReportsBounded.withdrawEntry (u : TxQueueId) (place : Nat) (r : ReportResult) (h : s.ReportsBounded) :
    (s.withdrawEntry u place r).ReportsBounded := by
  unfold State.withdrawEntry
  dsimp only
  split <;> exact h.leaveWithReport u place r

theorem State.ReportsBounded.enterWaiting (u : TxQueueId) (h : s.ReportsBounded) :
    (s.enterWaiting u).ReportsBounded := by
  obtain heq | heq | ⟨_, _, _, _, heq⟩ := s.enterWaiting_cases u <;> rw [heq]
  · exact h
  · exact h.finishEntry u .lateDropped
  · exact h

theorem State.ReportsBounded.select (h : s.ReportsBounded) : s.select.ReportsBounded :=
  s.select_preserves (fun _ u _ hu => hu.enterWaiting u) h

theorem State.ReportsBounded.afterTransmit (h : s.ReportsBounded) : s.afterTransmit.ReportsBounded := by
  refine State.ReportsBounded.select ?_
  simpa [State.ReportsBounded] using h

theorem State.ReportsBounded.timeChange (old new : LinkTime) (h : s.ReportsBounded) :
    (s.timeChange old new).ReportsBounded := by
  unfold State.timeChange
  dsimp only
  refine State.ReportsBounded.afterTransmit ?_
  obtain heq | ⟨u, _, _, _, _, ⟨_, heq⟩ | ⟨_, _, heq⟩⟩ := State.deadlineChange_cases
    { s with rxq := s.rxq.map (RxQueue.timeChange old new), txq := s.txq.map (TxQueue.timeChange old new) } old new <;>
    rw [heq]
  · exact h
  · exact State.ReportsBounded.finishEntry u .lateDropped h
  · exact h

/-! ### The statement about the time base and the lists -/

/-- The time base and the report list within their bounds: what O53 asks every step to keep. -/
def State.TimeAndListsBounded (s : State) : Prop := s.time.Bounded ∧ s.ReportsBounded

theorem State.Alike.timeAndListsBounded {t : State} (h : s.Alike t) (hs : s.TimeAndListsBounded) :
    t.TimeAndListsBounded := by
  simpa only [State.TimeAndListsBounded, State.ReportsBounded, h.time, h.reports] using hs

theorem State.Moves.timeAndListsBounded {t : State} (h : s.Moves t) (hs : s.TimeAndListsBounded) :
    t.TimeAndListsBounded := by
  obtain ⟨htime, hreports⟩ := hs
  cases h
  -- moves of the time base, and the removal of a report
  case writeTime hwritten => exact ⟨htime.written hwritten, hreports⟩
  case boundary =>
    refine ⟨?_, State.ReportsBounded.timeChange _ _ ?_⟩
    · simpa [State.takeBoundary] using htime.boundary
    · unfold State.noteBoundary
      split <;> simpa [State.ReportsBounded] using hreports
  case countingEdge hinside =>
    refine ⟨?_, State.ReportsBounded.timeChange _ _ (by simpa [State.ReportsBounded] using hreports)⟩
    simpa [State.takeCountingEdge] using htime.countEdge hinside
  case popReport hlist =>
    refine ⟨htime, ?_⟩
    rw [State.ReportsBounded, hlist, List.length_cons] at hreports
    exact Nat.le_of_succ_le hreports
  case hardwareReset => exact ⟨TimeBase.Bounded.reset, Nat.zero_le 32⟩
  -- a byte of the line
  case startByte data eop err => exact ⟨htime.startByte data eop err, by simpa [State.ReportsBounded] using hreports⟩
  case otherByte data eop err => exact ⟨htime.otherByte data eop err, by simpa [State.ReportsBounded] using hreports⟩
  -- moves that report nothing
  case adjustRx | openWindow | closeWindow | configureTx | pauseTx | release => exact ⟨htime, hreports⟩
  case lineRxOff | startRxFlush | rxFlushRemoval | releaseWindow | beginStaging | abandon | startTxFlush | lineTxOff =>
    exact ⟨by simpa using htime, by simpa [State.ReportsBounded] using hreports⟩
  -- moves that a selection follows
  case submit | startTx | launch | beginAttempt =>
    exact ⟨by simpa [State.beginAttempt, State.setHead] using htime, State.ReportsBounded.afterTransmit hreports⟩
  case lineTxOn => exact ⟨by simpa using htime, State.ReportsBounded.afterTransmit hreports⟩
  case withdraw u place r _ _ => exact ⟨by simpa using htime, (hreports.withdrawEntry u place r).afterTransmit⟩
  case expire u _ _ => exact ⟨by simpa using htime, (hreports.finishEntry u _).afterTransmit⟩
  case abort a _ _ => exact ⟨by simpa using htime, (hreports.finishEntry a.queue _).afterTransmit⟩
  case endCut =>
    exact ⟨by simpa using htime, State.ReportsBounded.afterTransmit (by simpa [State.ReportsBounded] using hreports)⟩
  case acceptByte a e rest _ _ _ =>
    refine ⟨by simpa using htime, ?_⟩
    unfold State.acceptByte
    dsimp only
    split
    · exact hreports
    · exact State.ReportsBounded.afterTransmit (State.ReportsBounded.finishEntry _ _ hreports)
  case retry a _ _ _ _ _ _ =>
    refine ⟨by simpa using htime, State.ReportsBounded.afterTransmit ?_⟩
    unfold State.retryEntry
    split
    · exact hreports.enterWaiting a.queue
    · exact hreports
  -- SOFT_RESET
  case acceptSoftReset =>
    refine ⟨by simpa using htime, State.ReportsBounded.afterTransmit ?_⟩
    simp [State.ReportsBounded, State.clearReports]
  case softResetRxRemoval | softResetTxRemoval =>
    exact ⟨by simpa using htime, State.ReportsBounded.afterTransmit (by simpa [State.ReportsBounded] using hreports)⟩

/-- Settles O53: states alike share the time base and the report list, and every move keeps their bounds. -/
theorem everyStepKeepsTheTimeBaseAndListsInRange : Obligations.EveryStepKeepsTheTimeBaseAndListsInRange := by
  intro s t hrange ⟨hrefs, hreports⟩ hstep
  obtain ⟨⟨hrange', hrefs'⟩, hreports'⟩ := step_keeps (P := State.TimeAndListsBounded)
    (fun _ _ h => h.timeAndListsBounded) (fun _ _ h => h.timeAndListsBounded) hstep ⟨⟨hrange, hrefs⟩, hreports⟩
  exact ⟨hrange', hrefs', hreports'⟩

end Sys2Proof.Machine
end

section
/-! What every move does to one receive queue, and the proofs that no queue exceeds its quota and that its batch state
agrees with BC (R23, R80, R81, R82). -/

namespace Sys2Proof.Machine

variable {s : State}

/-! ### What a byte of the line does to a receive queue -/

/-- The transitions of one receive queue that a byte of the line can bring about: the queue's answer to a header, and
the end of a stored packet (R60 to R63). -/
inductive RxQueue.Takes (r : RxQueue) : RxQueue → Prop
  | refuse : r.Takes r.refuse
  | reject : r.Takes r.reject
  | lose : r.Takes r.lose
  | start (hpending : r.state = .pending) (hmarker : r.window.start = .atMarker) : r.Takes r.startRunning
  | commit (rec : RxRecord) (hstate : r.state ≠ .off) (hflush : r.flush = false)
      (hquota : r.cellCount + rec.cells ≤ r.config.quota) : r.Takes (r.commit rec)

theorem State.beginPacket_rxQueue (data : Byte) (eop err : Bool) (u : RxQueueId) :
    (s.beginPacket data eop err).rxQueue u = s.rxQueue u := by
  cases eop <;> rfl

section

variable {Q : RxQueue → Prop} (hQ : ∀ r x : RxQueue, r.Takes x → Q r → Q x) (u : RxQueueId)
include hQ

/-- One transition of one queue. -/
theorem State.setRxQueue_keeps {q : RxQueueId} {x : RxQueue} (htakes : (s.rxQueue q).Takes x)
    (hs : Q (s.rxQueue u)) : Q ((s.setRxQueue q x).rxQueue u) := by
  rw [State.rxQueue_setRxQueue]
  split
  next heq =>
    subst heq
    exact hQ _ _ htakes hs
  next => exact hs

theorem State.reserveFor_keeps (q : RxQueueId) (h : Header) (hs : Q (s.rxQueue u)) :
    Q ((s.reserveFor q h).1.rxQueue u) := by
  obtain ⟨-, heq⟩ | heq := s.reserveFor_cases q h <;> rw [heq]
  · rwa [State.rxQueue_congr (s.takeReservation_frame _).2.2.2.2.2.1]
  · exact State.setRxQueue_keeps hQ u .lose hs

theorem State.admitTo_keeps (q : RxQueueId) (h : Header) (hs : Q (s.rxQueue u)) :
    Q ((s.admitTo q h).1.rxQueue u) := by
  unfold State.admitTo
  dsimp only
  split
  · exact State.setRxQueue_keeps hQ u .refuse hs
  split
  case h_1 | h_2 => exact State.reserveFor_keeps hQ u q h hs
  case h_3 hpending =>
    split
    next hstart => exact State.reserveFor_keeps hQ u q h (State.setRxQueue_keeps hQ u (.start hpending hstart.1) hs)
    next => exact State.setRxQueue_keeps hQ u .refuse hs
  case h_4 | h_5 => exact State.setRxQueue_keeps hQ u .refuse hs
  case h_6 => exact State.setRxQueue_keeps hQ u .lose hs

theorem State.classify_keeps (h : Header) (hs : Q (s.rxQueue u)) : Q ((s.classify h).1.rxQueue u) := by
  unfold State.classify
  dsimp only
  split
  · exact hs
  · split
    · exact hs
    · exact State.admitTo_keeps hQ u _ h hs

theorem State.settleStorage_keeps (p : BodyPacket) (f : RecordFlags) (bytes : List Byte) (hs : Q (s.rxQueue u)) :
    Q ((s.settleStorage p f bytes).rxQueue u) := by
  unfold State.settleStorage
  dsimp only
  split
  · exact State.setRxQueue_keeps hQ u .reject hs
  split
  · exact State.setRxQueue_keeps hQ u .refuse hs
  next hopen =>
    obtain ⟨hstate, hflush⟩ : (s.rxQueue p.snapshot.config.queue).state ≠ .off ∧
        (s.rxQueue p.snapshot.config.queue).flush = false := by simpa using hopen
    unfold State.commitRecord
    dsimp only
    split
    next hquota => exact State.setRxQueue_keeps (s := s.returnCells _) hQ u (.commit _ hstate hflush hquota) hs
    next => exact State.setRxQueue_keeps (s := s.returnCells _) hQ u .refuse hs

theorem State.settleEnd_keeps (p : BodyPacket) (early : Bool) (hs : Q (s.rxQueue u)) :
    Q ((s.settleEnd p early).rxQueue u) := by
  have hrest (t : State) (f : RecordFlags) (ht : Q (t.rxQueue u)) :
      Q (((t.settleSequence p f).settleReference p f).rxQueue u) := by
    have hrxq : ((t.settleSequence p f).settleReference p f).rxq = t.rxq := by
      unfold State.settleReference
      split <;> simp
    rwa [State.rxQueue_congr hrxq]
  cases hstorage : p.storage with
  | none =>
    rw [State.settleEnd_of_no_storage hstorage]
    exact hrest _ _ hs
  | some bytes =>
    rw [State.settleEnd_of_storage hstorage]
    exact hrest _ _ (State.settleStorage_keeps hQ u p _ bytes hs)

/-- Every receive queue after a start byte. -/
theorem State.startByte_keeps (data : Byte) (eop err : Bool) (hs : Q (s.rxQueue u)) :
    Q ((s.startByte data eop err).rxQueue u) := by
  unfold State.startByte
  split <;> rw [State.beginPacket_rxQueue]
  case h_1 | h_2 | h_3 => exact hs
  case h_4 p _ => exact State.settleEnd_keeps hQ u p true hs

theorem State.headerByte_keeps (p : HeaderPacket) (data : Byte) (eop err : Bool) (hs : Q (s.rxQueue u)) :
    Q ((s.headerByte p data eop err).rxQueue u) := by
  unfold State.headerByte
  dsimp only
  split
  · split
    next header _ =>
      have hclassified := State.classify_keeps hQ u header hs
      unfold State.goodHeader
      dsimp only
      split
      · exact State.settleEnd_keeps hQ u _ false hclassified
      · exact hclassified
    next => exact hs
  · split <;> exact hs

/-- Every receive queue after a byte without LRSOP. -/
theorem State.otherByte_keeps (data : Byte) (eop err : Bool) (hs : Q (s.rxQueue u)) :
    Q ((s.otherByte data eop err).rxQueue u) := by
  unfold State.otherByte
  split
  next => exact hs
  next => split <;> exact hs
  next p _ => exact State.headerByte_keeps hQ u p data eop err hs
  next p _ =>
    dsimp only
    split
    · exact State.settleEnd_keeps hQ u _ false hs
    · exact hs

end

/-! ### The other events of a receive queue -/

/-- The flush flag and the pending loss at the acceptance of RX_FLUSH (R91). -/
theorem State.startRxFlush_rxQueue (q u : RxQueueId) :
    (s.startRxFlush q).rxQueue u =
      if u = q then { s.rxQueue q with flush := true, pendingLoss := 0 } else s.rxQueue u := by
  rw [← State.rxQueue_setRxQueue]
  unfold State.startRxFlush
  dsimp only
  split <;> rfl

/-- The flush flag at the completion of RX_FLUSH (R92). -/
theorem State.completeRxFlush_rxQueue (q u : RxQueueId) :
    (s.completeRxFlush q).rxQueue u =
      if u = q ∧ (s.rxQueue q).records = [] then { s.rxQueue q with flush := false } else s.rxQueue u := by
  unfold State.completeRxFlush
  split
  next hempty =>
    have hempty' : (s.rxQueue q).records = [] := by simpa using hempty
    simp only [hempty', and_true]
    exact State.rxQueue_setRxQueue s q u _
  next hrecords =>
    have hrecords' : (s.rxQueue q).records ≠ [] := by simpa using hrecords
    rw [if_neg fun h => hrecords' h.2]

/-- Every receive queue at the acceptance of SOFT_RESET (R95). -/
theorem State.acceptSoftReset_rxQueue (q : RxQueueId) : s.acceptSoftReset.rxQueue q = (s.rxQueue q).softReset := by
  have hrxq : s.acceptSoftReset.rxq = s.rxq.map RxQueue.softReset := by
    simp [State.acceptSoftReset, State.clearReports, State.softResetTxFlags, State.softResetRxQueues,
      State.clearEvents, State.softResetUnit]
  rw [← State.rxQueue_map s RxQueue.softReset q]
  exact State.rxQueue_congr (t := { s with rxq := s.rxq.map RxQueue.softReset }) hrxq q

@[simp] theorem State.takeBoundary_rxq :
    s.takeBoundary.rxq = s.rxq.map (RxQueue.timeChange s.time.now s.time.boundary.now) := by
  unfold State.takeBoundary State.noteBoundary
  split <;> simp

@[simp] theorem State.takeCountingEdge_rxq :
    s.takeCountingEdge.rxq = s.rxq.map (RxQueue.timeChange s.time.now s.time.countEdge.now) := by
  simp [State.takeCountingEdge]

/-! ### What every move does to one receive queue -/

/-- A property of a receive queue at a link time that every transition of the queue keeps. -/
structure RxQueue.Invariant (Q : LinkTime → RxQueue → Prop) : Prop where
  takes : ∀ now (r x : RxQueue), r.Takes x → Q now r → Q now x
  adjusts : ∀ now (r x : RxQueue), r.Adjusts now x → Q now r → Q now x
  flags : ∀ now (r : RxQueue) flush loss, Q now r → Q now { r with flush := flush, pendingLoss := loss }
  removal : ∀ now (r : RxQueue), Q now r → Q now { r with records := r.records.tail }
  softReset : ∀ now (r : RxQueue), Q now r → Q now r.softReset
  time : ∀ old new (r : RxQueue), Q old r → Q new (r.timeChange old new)
  reset : Q LinkTime.zero RxQueue.reset

variable {Q : LinkTime → RxQueue → Prop} {t : State}

theorem RxQueue.Invariant.removeHeadRecord (hQ : RxQueue.Invariant Q) {now : LinkTime} (q u : RxQueueId)
    (hs : Q now (s.rxQueue u)) : Q now ((s.removeHeadRecord q).rxQueue u) := by
  rw [State.removeHeadRecord_rxQueue]
  split
  next heq => exact hQ.removal now _ (heq ▸ hs)
  next => exact hs

theorem RxQueue.Invariant.completeRxFlush (hQ : RxQueue.Invariant Q) {now : LinkTime} (q u : RxQueueId)
    (hs : Q now (s.rxQueue u)) : Q now ((s.completeRxFlush q).rxQueue u) := by
  rw [State.completeRxFlush_rxQueue]
  split
  next heq => exact hQ.flags now (s.rxQueue q) false (s.rxQueue q).pendingLoss (heq.1 ▸ hs)
  next => exact hs

/-- Every move keeps it at every queue: the moves of other blocks leave the queues and link time alone, and each other
one is made of the queue's transitions. -/
theorem State.Moves.keeps_rxQueue (h : s.Moves t) (hQ : RxQueue.Invariant Q) (u : RxQueueId)
    (hs : Q s.time.now (s.rxQueue u)) : Q t.time.now (t.rxQueue u) := by
  have hleft {x : State} (hrxq : x.rxq = s.rxq) (htime : x.time = s.time) : Q x.time.now (x.rxQueue u) := by
    rwa [State.rxQueue_congr hrxq, htime]
  cases h
  case writeTime hwritten =>
    cases hwritten <;> exact hs
  case boundary =>
    rw [State.rxQueue_congr (t := { s with rxq := s.rxq.map _ }) s.takeBoundary_rxq, State.rxQueue_map]
    simpa [State.takeBoundary] using hQ.time _ _ _ hs
  case countingEdge =>
    rw [State.rxQueue_congr (t := { s with rxq := s.rxq.map _ }) s.takeCountingEdge_rxq, State.rxQueue_map]
    simpa [State.takeCountingEdge] using hQ.time _ _ _ hs
  case hardwareReset =>
    rw [State.hardwareReset_rxQueue]
    exact hQ.reset
  case adjustRx q r hadjusts _ =>
    rw [State.rxQueue_setRxQueue]
    split
    next heq => exact hQ.adjusts _ _ _ hadjusts (heq ▸ hs)
    next => exact hs
  case startByte data eop err =>
    simpa using State.startByte_keeps (hQ.takes s.time.now) u data eop err hs
  case otherByte data eop err =>
    simpa using State.otherByte_keeps (hQ.takes s.time.now) u data eop err hs
  case startRxFlush q _ =>
    have hstarted : Q s.time.now ((s.startRxFlush q).rxQueue u) := by
      rw [State.startRxFlush_rxQueue]
      split
      next heq => exact hQ.flags _ _ true 0 (heq ▸ hs)
      next => exact hs
    simpa using hQ.completeRxFlush q u hstarted
  case rxFlushRemoval q _ => simpa using hQ.completeRxFlush q u (hQ.removeHeadRecord q u hs)
  case releaseWindow w _ _ =>
    rw [State.rxQueue_congr (s := State.closeWindow _) (t := s.removeHeadRecord w.queue) rfl]
    simpa using hQ.removeHeadRecord w.queue u hs
  case acceptSoftReset =>
    rw [State.acceptSoftReset_rxQueue]
    simpa using hQ.softReset _ _ hs
  case softResetRxRemoval q _ =>
    rw [State.rxQueue_congr (t := s.removeHeadRecord q) (by simp)]
    simpa using hQ.removeHeadRecord q u hs
  -- moves that leave the receive queues
  case popReport | openWindow | closeWindow | configureTx | pauseTx | release => exact hs
  case lineRxOff | beginStaging | submit | abandon | startTx | startTxFlush | withdraw | launch | expire | endCut |
    acceptByte | retry | abort | lineTxOn | lineTxOff | softResetTxRemoval => exact hleft (by simp) (by simp)
  case beginAttempt =>
    exact hleft (by simp [State.beginAttempt, State.setHead]) (by simp [State.beginAttempt, State.setHead])

/-! ### Quotas and batches (R23, R80, R81, R82) -/

/-- A queue within its quota whose batch state agrees with its BC. -/
def RxQueue.Sound (r : RxQueue) : Prop := r.cellCount ≤ r.config.quota ∧ r.BatchAgrees

variable {r : RxQueue}

theorem RxQueue.batchAgrees_of_off (h : r.state = .off) : r.BatchAgrees := by
  simp [RxQueue.BatchAgrees, h]

theorem RxQueue.batchAgrees_of_stopped {c : StopCause} (h : r.state = .stopped c) : r.BatchAgrees := by
  simp [RxQueue.BatchAgrees, h]

/-- In the states that ask for it, BC is clear. -/
theorem RxQueue.BatchAgrees.clear (h : r.BatchAgrees) (hstate : r.state = .pending ∨ r.state = .run) :
    r.batchComplete = false := by
  obtain hstate | hstate := hstate <;> simpa [RxQueue.BatchAgrees, hstate] using h

theorem RxQueue.batchAgrees_of_run (hstate : r.state = .run) (hclear : r.batchComplete = false) : r.BatchAgrees := by
  simpa [RxQueue.BatchAgrees, hstate] using hclear

/-- The agreement looks at the state, the mode and BC. -/
theorem RxQueue.BatchAgrees.congr {x : RxQueue} (h : r.BatchAgrees) (hstate : x.state = r.state)
    (hmode : x.config.mode = r.config.mode) (hbc : x.batchComplete = r.batchComplete) : x.BatchAgrees := by
  simpa only [RxQueue.BatchAgrees, hstate, hmode, hbc] using h

/-- A loss sends RUN and GRACE to the HELD that remembers them (R61, R85). -/
theorem RxQueue.BatchAgrees.lose (h : r.BatchAgrees) : r.lose.BatchAgrees := by
  unfold RxQueue.lose RxQueue.holdOnLoss
  split
  next hstate =>
    have hrun : r.state = .run := hstate
    simpa [RxQueue.BatchAgrees, RxQueue.raise, hrun] using h
  next hstate =>
    have hgrace : r.state = .grace := hstate
    simpa [RxQueue.BatchAgrees, RxQueue.raise, hgrace] using h
  next => exact h

/-- A commit that fills a batch leaves RUN for GRACE with BC set, or stops (R80, R81). -/
theorem RxQueue.BatchAgrees.accountBatch (h : r.BatchAgrees) : r.accountBatch.BatchAgrees := by
  unfold RxQueue.accountBatch
  split
  case h_3 => exact h
  all_goals
    unfold RxQueue.countBatch
    dsimp only
    split
    next => exact h
    next =>
      split
      · exact RxQueue.batchAgrees_of_stopped rfl
      · exact h
    next hmode =>
      split
      · split
        · exact RxQueue.batchAgrees_of_stopped rfl
        · exact ⟨hmode, rfl⟩
      · exact h

theorem RxQueue.BatchAgrees.commit (h : r.BatchAgrees) (rec : RxRecord) : (r.commit rec).BatchAgrees := by
  unfold RxQueue.commit RxQueue.raiseIf
  dsimp only
  refine RxQueue.BatchAgrees.accountBatch ?_
  split <;> exact h

theorem RxQueue.BatchAgrees.reachStop (h : r.BatchAgrees) : r.reachStop.BatchAgrees := by
  unfold RxQueue.reachStop
  split
  · exact h
  · exact h
  · exact RxQueue.batchAgrees_of_stopped rfl

theorem RxQueue.startWatched_eq_some {T : LinkTime} :
    r.startWatched = some T ↔ r.state = .pending ∧ r.window.start = .atTime T := by
  unfold RxQueue.startWatched
  split
  next hstate hstart => simp [hstate, hstart]
  next hnot =>
    simp only [reduceCtorEq, false_iff]
    exact fun ⟨hstate, hstart⟩ => hnot T hstate hstart

theorem RxQueue.stopWatched_eq_some {T : LinkTime} :
    r.stopWatched = some T ↔ r.state ≠ .off ∧ r.window.stop = some T := by
  unfold RxQueue.stopWatched
  split
  next hoff => simp [hoff]
  next hnot => exact ⟨fun h => ⟨hnot, h⟩, fun h => h.2⟩

theorem RxQueue.BatchAgrees.startRunning (h : r.BatchAgrees) (hpending : r.state = .pending) :
    r.startRunning.BatchAgrees := RxQueue.batchAgrees_of_run rfl (h.clear (.inl hpending))

/-- A change of link time is at most the start of a queue that waits for its start time, and then its stop (R76 to
R78). -/
theorem RxQueue.timeChange_keeps {P : RxQueue → Prop} {old new : LinkTime}
    (hstart : ∀ (x : RxQueue) T, x.startWatched = some T → T.reachedBy old new = true → P x → P x.startRunning)
    (hstop : ∀ (x : RxQueue) T, x.stopWatched = some T → T.reachedBy old new = true → P x → P x.reachStop)
    (hr : P r) : P (r.timeChange old new) := by
  have hthen (x : RxQueue) (hx : P x) :
      P (match x.stopWatched with
        | some T => if T.reachedBy old new then x.reachStop else x
        | none => x) := by
    split
    next T hwatched =>
      split
      next hreached => exact hstop x T hwatched hreached hx
      next => exact hx
    next => exact hx
  unfold RxQueue.timeChange
  refine hthen _ ?_
  split
  next T hwatched =>
    split
    next hreached => exact hstart r T hwatched hreached hr
    next => exact hr
  next => exact hr

@[simp] theorem RxQueue.reachStop_frame :
    r.reachStop.records = r.records ∧ r.reachStop.config = r.config ∧ r.reachStop.window = r.window ∧
    r.reachStop.flush = r.flush := by
  unfold RxQueue.reachStop
  split <;> simp [RxQueue.stopWith, RxQueue.raise]

/-- The queue as RX_ENABLE clears it, before its start condition acts (R74). -/
def RxQueue.cleared (r : RxQueue) : RxQueue := { r with batchCount := 0, batchComplete := false, pendingLoss := 0 }

/-- RX_ENABLE starts the cleared queue, or leaves it PENDING for a start that is not yet there, and then stops it if its
stop time is reached (R74). -/
theorem RxQueue.enable_keeps {P : RxQueue → Prop} {now : LinkTime} (hrun : P r.cleared.startRunning)
    (hpending : (∀ T, r.window.start = .atTime T → T.reachedAt now = false) → P { r.cleared with state := .pending })
    (hstop : ∀ (x : RxQueue) T, x.window.stop = some T → T.reachedAt now = true → P x → P (x.stopWith .windowEnd)) :
    P (r.enable now) := by
  have hthen (x : RxQueue) (hx : P x) :
      P (match x.window.stop with
        | some T => if T.reachedAt now then x.stopWith .windowEnd else x
        | none => x) := by
    split
    next T hT =>
      split
      next hreached => exact hstop x T hT hreached hx
      next => exact hx
    next => exact hx
  unfold RxQueue.enable
  refine hthen _ ?_
  split
  next => exact hrun
  next T hT =>
    split
    next => exact hrun
    next hahead =>
      refine hpending fun U hU => ?_
      cases hT.symm.trans hU
      simpa using hahead
  next hmarker => exact hpending fun T hT => by cases (show r.window.start = _ from hmarker).symm.trans hT

/-- RX_ENABLE leaves the records, the configuration, the window and the flush flag alone (R74). -/
@[simp] theorem RxQueue.enable_frame (now : LinkTime) :
    (r.enable now).records = r.records ∧ (r.enable now).config = r.config ∧ (r.enable now).window = r.window ∧
    (r.enable now).flush = r.flush :=
  RxQueue.enable_keeps (P := fun x => x.records = r.records ∧ x.config = r.config ∧ x.window = r.window ∧
    x.flush = r.flush) ⟨rfl, rfl, rfl, rfl⟩ (fun _ => ⟨rfl, rfl, rfl, rfl⟩) fun _ _ _ _ hx => hx

/-- RX_ENABLE clears BC, and leads to PENDING, RUN or STOPPED (R74). -/
theorem RxQueue.enable_batchAgrees (now : LinkTime) (r : RxQueue) : (r.enable now).BatchAgrees :=
  RxQueue.enable_keeps (P := RxQueue.BatchAgrees) (RxQueue.batchAgrees_of_run rfl rfl) (fun _ => rfl)
    fun _ _ _ _ _ => RxQueue.batchAgrees_of_stopped rfl

/-- RX_ACK_BATCH clears BC where GRACE asks for it, by leaving GRACE (R82). -/
theorem RxQueue.acknowledge_batchAgrees (r : RxQueue) : r.acknowledge.BatchAgrees := by
  unfold RxQueue.acknowledge
  split
  next => rfl
  next => rfl
  next hgrace hheld =>
    cases hstate : r.state with
    | off | stopped => simp [RxQueue.BatchAgrees]
    | pending | run => simp [RxQueue.BatchAgrees]
    | grace => exact absurd hstate hgrace
    | held before =>
      cases before with
      | run => simp [RxQueue.BatchAgrees]
      | grace => exact absurd hstate hheld

/-- The quota and the batch state, through every transition of a queue. -/
theorem RxQueue.sound_invariant : RxQueue.Invariant fun _ r => r.Sound where
  takes _ r x htakes h := by
    obtain ⟨hquota, hbatch⟩ := h
    cases htakes with
    | refuse | reject => exact ⟨hquota, hbatch⟩
    | lose => exact ⟨by simpa [RxQueue.cellCount] using hquota, hbatch.lose⟩
    | start hpending _ => exact ⟨hquota, hbatch.startRunning hpending⟩
    | commit rec _ _ hfits =>
      refine ⟨?_, hbatch.commit rec⟩
      simpa [RxQueue.cellCount, RxRecord.cells, RxRecord.storedLength] using hfits
  adjusts now r x hadjusts h := by
    obtain ⟨hquota, hbatch⟩ := h
    cases hadjusts with
    | events => exact ⟨hquota, hbatch⟩
    | configure g hoff hempty => exact ⟨by simp [RxQueue.cellCount, hempty], RxQueue.batchAgrees_of_off hoff⟩
    | setWindow w hoff => exact ⟨hquota, RxQueue.batchAgrees_of_off hoff⟩
    | enable hoff => exact ⟨by simpa [RxQueue.cellCount] using hquota, RxQueue.enable_batchAgrees now r⟩
    | disable => exact ⟨hquota, RxQueue.batchAgrees_of_off rfl⟩
    | acknowledge => exact ⟨hquota, r.acknowledge_batchAgrees⟩
    | rearm hrearm =>
      unfold RxQueue.rearm at hrearm
      split at hrearm <;> cases hrearm <;> exact ⟨hquota, RxQueue.batchAgrees_of_run rfl rfl⟩
    | resume hresume =>
      unfold RxQueue.resume at hresume
      split at hresume <;> cases hresume
      next hstate => exact ⟨hquota, by simpa [RxQueue.BatchAgrees, hstate] using hbatch⟩
      next hstate => exact ⟨hquota, by simpa [RxQueue.BatchAgrees, hstate] using hbatch⟩
    | startReached hwatched _ => exact ⟨hquota, hbatch.startRunning (RxQueue.startWatched_eq_some.mp hwatched).1⟩
    | stopReached => exact ⟨by simpa [RxQueue.cellCount] using hquota, hbatch.reachStop⟩
  flags _ _ _ _ h := h
  removal _ r h := by
    refine ⟨le_trans ?_ h.1, h.2⟩
    cases hrecords : r.records <;> simp [RxQueue.cellCount, hrecords]
  softReset _ _ h := ⟨h.1, RxQueue.batchAgrees_of_off rfl⟩
  time old new r h := by
    refine ⟨by simpa [RxQueue.cellCount] using h.1, RxQueue.timeChange_keeps (P := RxQueue.BatchAgrees) ?_ ?_ h.2⟩
    · exact fun x T hwatched _ hx => hx.startRunning (RxQueue.startWatched_eq_some.mp hwatched).1
    · exact fun x T _ _ hx => hx.reachStop
  reset := ⟨Nat.zero_le _, trivial⟩

/-- Settles O54: every transition of a queue keeps its quota and the agreement of its batch state with BC, and every
move is made of such transitions. -/
theorem everyStepKeepsQuotasAndBatches : Obligations.EveryStepKeepsQuotasAndBatches := by
  intro s t hquotas hbatches hstep
  have hsound : ∀ q, (t.rxQueue q).Sound :=
    step_keeps (P := fun s => ∀ q, (s.rxQueue q).Sound)
      (fun _ _ halike hs q => State.rxQueue_congr halike.rxq q ▸ hs q)
      (fun _ _ hmoves hs q => hmoves.keeps_rxQueue RxQueue.sound_invariant q (hs q)) hstep
      fun q => ⟨hquotas q, hbatches q⟩
  exact ⟨fun q => (hsound q).1, fun q => (hsound q).2⟩

end Sys2Proof.Machine
end

section
/-! Proofs about the transmit queues (07, 08): depths, launch order and attempts (R119, R142). -/

namespace Sys2Proof.Machine

variable {s t : State}

/-! ### The changes that take several steps -/

/-- The first part of a change of link time: the receive queues and the launch watchers (R76, R77, R131). -/
def State.watched (s : State) (old new : LinkTime) : State :=
  { s with rxq := s.rxq.map (RxQueue.timeChange old new), txq := s.txq.map (TxQueue.timeChange old new) }

theorem State.timeChange_eq (old new : LinkTime) :
    s.timeChange old new = ((s.watched old new).deadlineChange old new).afterTransmit := rfl

@[simp] theorem State.watched_rxQueue (old new : LinkTime) (q : RxQueueId) :
    (s.watched old new).rxQueue q = (s.rxQueue q).timeChange old new := by
  simp [State.watched, State.rxQueue]

@[simp] theorem State.watched_txQueue (old new : LinkTime) (u : TxQueueId) :
    (s.watched old new).txQueue u = (s.txQueue u).timeChange old new := by
  simp [State.watched, State.txQueue]

/-- What the acceptance of SOFT_RESET does to the blocks before the transmit framer (R162). -/
def State.softResetBlocks (s : State) : State :=
  s.softResetUnit.clearEvents.softResetFramer.closeWindow.softResetRxQueues.abandonStaging.softResetTxFlags

theorem State.acceptSoftReset_eq :
    s.acceptSoftReset = s.softResetBlocks.softResetTransmit.clearReports.completeSoftReset.afterTransmit := rfl

@[simp] theorem State.softResetBlocks_frame :
    s.softResetBlocks.inReset = s.inReset ∧ s.softResetBlocks.time = s.time ∧
    s.softResetBlocks.channels = s.channels ∧ s.softResetBlocks.txSequence = s.txSequence ∧
    s.softResetBlocks.window = { s.window with record := none } ∧ s.softResetBlocks.staging.record = none ∧
    s.softResetBlocks.rxq = s.rxq.map RxQueue.softReset ∧
    s.softResetBlocks.txq = s.txq.map (fun x => { x with flush := false }) ∧ s.softResetBlocks.txf = s.txf ∧
    s.softResetBlocks.reports = s.reports ∧ s.softResetBlocks.irq = { s.irq with status := 0 } ∧
    s.softResetBlocks.cmd = { s.cmd with running := some .softReset, refused := false } ∧
    s.softResetBlocks.host = s.host ∧ s.softResetBlocks.pending = s.pending := by
  simp [State.softResetBlocks, State.softResetTxFlags, State.softResetRxQueues, State.clearEvents,
    State.softResetUnit]

@[simp] theorem State.softResetBlocks_txQueue (u : TxQueueId) :
    s.softResetBlocks.txQueue u = { s.txQueue u with flush := false } := by
  simp [State.txQueue]

/-! ### One transmit queue -/

/-- What the order of a queue and its attempts read of an entry. -/
def TxEntry.orderKey (e : TxEntry) : Option LinkTime × Nat := (e.launch, e.attempts)

/-- A launch that may stand before another one. -/
def launchNotAfter (a b : Option LinkTime) : Prop := ∀ x y, a = some x → b = some y → y.before x = false

/-- A list of launches and attempts as a queue may hold it: within the depth, in launch order, with attempts at the head
alone, one more of them than the retry limit while the head is being sent (R119, R142). -/
structure OrderedKeys (g : TxConfig) (sending : Bool) (keys : List (Option LinkTime × Nat)) : Prop where
  depth : keys.length ≤ g.depth
  order : keys.Pairwise fun a b => launchNotAfter a.1 b.1
  limit : g.retryLimit ≤ 7
  tail : ∀ k ∈ keys.tail, k.2 = 0
  head : ∀ k, keys.head? = some k → k.2 ≤ g.retryLimit + if sending then 1 else 0

/-- A transmit queue within its depth, in launch order and within its attempts. -/
def TxQueue.Orderly (x : TxQueue) (sending : Bool) : Prop :=
  OrderedKeys x.config sending (x.entries.map TxEntry.orderKey)

variable {x y : TxQueue} {sending : Bool} {g : TxConfig} {keys : List (Option LinkTime × Nat)}

/-- A queue whose entries have the same launches and attempts is as orderly. -/
theorem TxQueue.Orderly.congr (h : x.Orderly sending) (hconfig : y.config = x.config)
    (hkeys : y.entries.map TxEntry.orderKey = x.entries.map TxEntry.orderKey) : y.Orderly sending := by
  unfold TxQueue.Orderly at *
  rwa [hconfig, hkeys]

/-- A queue that is orderly without its head being sent is orderly in any case. -/
theorem TxQueue.Orderly.of_calm (h : x.Orderly false) : x.Orderly sending :=
  { h with head := fun k hk => (h.head k hk).trans (by simp) }

/-- The removal of an entry keeps a queue orderly (R119). -/
theorem OrderedKeys.eraseIdx (h : OrderedKeys g sending keys) (place : Nat) :
    OrderedKeys g sending (keys.eraseIdx place) where
  depth := (List.length_eraseIdx_le keys place).trans h.depth
  order := h.order.sublist (List.eraseIdx_sublist keys place)
  limit := h.limit
  tail := by
    cases keys with
    | nil => simp
    | cons k rest =>
      cases place with
      | zero => exact fun j hj => h.tail j (List.mem_of_mem_tail hj)
      | succ n => exact fun j hj => h.tail j (List.mem_of_mem_eraseIdx hj)
  head := by
    cases keys with
    | nil => simp
    | cons k rest =>
      cases place with
      | zero =>
        intro j hj
        rw [h.tail j (List.mem_of_mem_head? hj)]
        exact Nat.zero_le _
      | succ n => exact h.head

/-- With its head removed the queue has no attempts left (R142). -/
theorem OrderedKeys.tail_calm (h : OrderedKeys g sending keys) : OrderedKeys g false (keys.eraseIdx 0) :=
  { h.eraseIdx 0 with
    head := fun k hk => by
      cases keys with
      | nil => simp at hk
      | cons j rest =>
        rw [h.tail k (List.mem_of_mem_head? hk)]
        exact Nat.zero_le _ }

theorem TxQueue.Orderly.erase (h : x.Orderly sending) (place : Nat) :
    ({ x with entries := x.entries.eraseIdx place } : TxQueue).Orderly sending := by
  simpa only [TxQueue.Orderly, List.eraseIdx_map] using OrderedKeys.eraseIdx h place

theorem TxQueue.Orderly.eraseHead (h : x.Orderly sending) :
    ({ x with entries := x.entries.eraseIdx 0 } : TxQueue).Orderly false := by
  simpa only [TxQueue.Orderly, List.eraseIdx_map] using OrderedKeys.tail_calm h

/-- An entry without attempts joins a queue with room, not before the latest launch (R116). -/
theorem TxQueue.Orderly.append (h : x.Orderly sending) {e : TxEntry} (hroom : x.entries.length < x.config.depth)
    (horder : x.breaksOrder e.launch = false) (hfresh : e.attempts = 0) :
    ({ x with entries := x.entries ++ [e] } : TxQueue).Orderly sending where
  depth := by simpa using hroom
  order := by
    rw [List.map_append, List.pairwise_append]
    refine ⟨h.order, by simp, ?_⟩
    simp only [List.mem_map, List.map_cons, List.map_nil, List.mem_singleton]
    rintro _ ⟨d, hd, rfl⟩ _ rfl T U hT hU
    have hT' : d.launch = some T := hT
    have hU' : e.launch = some U := hU
    unfold TxQueue.breaksOrder at horder
    simp only [hU', List.any_eq_false] at horder
    simpa [hT'] using horder d hd
  limit := h.limit
  tail := by
    cases hx : x.entries with
    | nil => simp
    | cons d rest =>
      have htail := h.tail
      simp only [hx, List.map_cons, List.tail_cons] at htail
      simp only [List.cons_append, List.map_cons, List.map_append, List.map_nil, List.tail_cons, List.mem_append,
        List.mem_singleton]
      rintro k (hk | rfl)
      · exact htail k hk
      · exact hfresh
  head := by
    cases hx : x.entries with
    | nil =>
      rintro k ⟨⟩
      change e.attempts ≤ _
      rw [hfresh]
      exact Nat.zero_le _
    | cons d rest =>
      have hhead := h.head
      simpa only [hx, List.map_cons, List.cons_append, List.head?_cons] using hhead

/-- The head makes one more attempt as it begins to be sent (R136). -/
theorem TxQueue.Orderly.attempt (h : x.Orderly false) {e e' : TxEntry} {rest : List TxEntry}
    (hentries : x.entries = e :: rest) (hlaunch : e'.launch = e.launch) (hattempts : e'.attempts = e.attempts + 1) :
    ({ x with entries := e' :: rest } : TxQueue).Orderly true := by
  obtain ⟨hdepth, horder, hlimit, htail, hhead⟩ := h
  simp only [hentries, List.map_cons, List.length_cons, List.pairwise_cons, List.tail_cons, List.head?_cons,
    Option.some.injEq, forall_eq', TxEntry.orderKey] at hdepth horder htail hhead
  refine ⟨hdepth, ?_, hlimit, htail, ?_⟩
  · simpa only [List.map_cons, List.pairwise_cons, TxEntry.orderKey, hlaunch] using horder
  · rintro k ⟨⟩
    simpa [TxEntry.orderKey, hattempts] using hhead

/-- A head within the retry limit is orderly whether it is being sent or not (R142). -/
theorem TxQueue.Orderly.calm_of_head (h : x.Orderly sending) {e : TxEntry} {rest : List TxEntry}
    (hentries : x.entries = e :: rest) (hlimit : e.attempts ≤ x.config.retryLimit) : x.Orderly false :=
  { h with
    head := by
      rw [hentries]
      rintro k ⟨⟩
      exact hlimit }

/-! ### The four transmit queues -/

/-- Every transmit queue is orderly. -/
def State.TxOrderly (s : State) : Prop := ∀ u, (s.txQueue u).Orderly (s.headSending u)

/-- Every transmit queue is orderly with no head being sent. -/
def State.TxCalm (s : State) : Prop := ∀ u, (s.txQueue u).Orderly false

theorem State.TxCalm.orderly (h : s.TxCalm) : s.TxOrderly := fun u => (h u).of_calm

theorem State.headSending_of_sending {a : Attempt} (h : s.txf.state = .sending a) (u : TxQueueId) :
    s.headSending u = decide (a.queue = u) := by
  simp only [State.headSending, h]
  rfl

theorem State.headSending_of_not_sending (h : ∀ a, s.txf.state ≠ .sending a) (u : TxQueueId) :
    s.headSending u = false := by
  unfold State.headSending
  split
  next a ha => exact absurd ha (h a)
  next => rfl

/-- Outside SENDING no head is being sent. -/
theorem State.TxOrderly.calm (h : s.TxOrderly) (hframer : ∀ a, s.txf.state ≠ .sending a) : s.TxCalm := fun u => by
  simpa only [State.headSending_of_not_sending hframer] using h u

theorem State.TxOrderly.calm_of_waiting (h : s.TxOrderly) {u : TxQueueId} {armed setBack : Bool}
    (hwaiting : s.txf.state = .waitingLine u armed setBack) : s.TxCalm :=
  h.calm fun a ha => by rw [hwaiting] at ha; cases ha

theorem State.TxOrderly.calm_of_idle (h : s.TxOrderly) (hidle : s.txf.state = .idle) : s.TxCalm :=
  h.calm fun a ha => by rw [hidle] at ha; cases ha

/-- States with the same queues and the same framer state are alike here. -/
theorem State.TxOrderly.congr (h : s.TxOrderly) (htxq : t.txq = s.txq) (hframer : t.txf.state = s.txf.state) :
    t.TxOrderly := fun u => by
  simpa only [State.txQueue_congr htxq, State.headSending, hframer] using h u

theorem State.TxCalm.congr (h : s.TxCalm) (htxq : t.txq = s.txq) : t.TxCalm := fun u => by
  simpa only [State.txQueue_congr htxq] using h u

/-- A change of one queue that keeps its launches, its attempts and its configuration. -/
theorem State.TxOrderly.set (h : s.TxOrderly) (u : TxQueueId) {x : TxQueue} (hconfig : x.config = (s.txQueue u).config)
    (hkeys : x.entries.map TxEntry.orderKey = (s.txQueue u).entries.map TxEntry.orderKey) :
    (s.setTxQueue u x).TxOrderly := fun v => by
  rw [State.txQueue_setTxQueue]
  split
  next heq => exact heq ▸ (h u).congr hconfig hkeys
  next => exact h v

theorem State.TxCalm.set (h : s.TxCalm) {u : TxQueueId} {x : TxQueue} (hx : x.Orderly false) :
    (s.setTxQueue u x).TxCalm := fun v => by
  rw [State.txQueue_setTxQueue]
  split
  · exact hx
  · exact h v

/-! ### Entries that leave, and the selection -/

theorem State.TxOrderly.removeEntry (h : s.TxOrderly) (u : TxQueueId) (place : Nat) :
    (s.removeEntry u place).TxOrderly := fun v => by
  have hsending : (s.removeEntry u place).headSending v = s.headSending v := by simp [State.headSending]
  rw [State.removeEntry_txQueue, hsending]
  split
  next heq => exact heq ▸ (h v).erase place
  next => exact h v

theorem State.TxOrderly.leaveWithReport (h : s.TxOrderly) (u : TxQueueId) (place : Nat) (r : ReportResult) :
    (s.leaveWithReport u place r).TxOrderly := fun v => by
  have hsending : (s.leaveWithReport u place r).headSending v = s.headSending v := by simp [State.headSending]
  rw [State.leaveWithReport_txQueue, hsending]
  split
  next heq => exact heq ▸ (h v).erase place
  next => exact h v

/-- The head that is being sent leaves: no head is being sent any more. -/
theorem State.TxOrderly.calm_of_headRemoved (h : s.TxOrderly) {a : Attempt} (hsending : s.txf.state = .sending a)
    (hqueue : ∀ v, t.txQueue v = if v = a.queue then
      { s.txQueue a.queue with entries := (s.txQueue a.queue).entries.eraseIdx 0 } else s.txQueue v) : t.TxCalm := by
  intro v
  have hv := h v
  rw [hqueue v]
  split
  next heq => exact heq ▸ hv.eraseHead
  next hne =>
    rw [State.headSending_of_sending hsending, decide_eq_false (Ne.symm hne)] at hv
    exact hv

theorem State.TxCalm.finishEntry (h : s.TxCalm) (u : TxQueueId) (r : ReportResult) : (s.finishEntry u r).TxCalm :=
  fun v => by
    rw [State.finishEntry_txQueue]
    split
    next heq => exact heq ▸ (h v).erase 0
    next => exact h v

theorem State.TxCalm.enterWaiting (h : s.TxCalm) (u : TxQueueId) : (s.enterWaiting u).TxCalm := by
  obtain heq | heq | ⟨_, _, _, _, heq⟩ := s.enterWaiting_cases u <;> rw [heq]
  · exact h
  · exact h.finishEntry u .lateDropped
  · exact h

theorem State.TxOrderly.select (h : s.TxOrderly) : s.select.TxOrderly :=
  s.select_preserves (fun v u hselects hv => ((hv.calm_of_idle (State.selects_some v hselects).1).enterWaiting u).orderly) h

/-- The completion of TX_FLUSH touches a flag of the queue alone (R125). -/
theorem State.completeTxFlush_txQueue (u : TxQueueId) :
    ∃ flush, s.completeTxFlush.txQueue u = { s.txQueue u with flush := flush } := by
  unfold State.completeTxFlush
  split
  next v _ =>
    split
    · rw [State.txQueue_congr (State.completeLong_txq _), State.txQueue_setTxQueue]
      split
      next heq => exact ⟨false, by rw [heq]⟩
      next => exact ⟨_, rfl⟩
    · exact ⟨_, rfl⟩
  next => exact ⟨_, rfl⟩

theorem State.TxOrderly.completeTxFlush (h : s.TxOrderly) : s.completeTxFlush.TxOrderly := fun u => by
  obtain ⟨flush, hqueue⟩ := s.completeTxFlush_txQueue u
  rw [hqueue, State.headSending, (s.completeTxFlush_frame).2.2.2.2.2.2.2.2.2.1]
  exact (h u).congr rfl rfl

theorem State.TxOrderly.afterTransmit (h : s.TxOrderly) : s.afterTransmit.TxOrderly := h.completeTxFlush.select

theorem TxEntry.timeChange_orderKey (old new : LinkTime) (e : TxEntry) :
    (e.timeChange old new).orderKey = e.orderKey := by
  unfold TxEntry.timeChange
  split <;> rfl

/-- A change of link time makes entries due, and may drop or release the one that waits for the line (R131, R137). -/
theorem State.TxOrderly.timeChange (h : s.TxOrderly) (old new : LinkTime) : (s.timeChange old new).TxOrderly := by
  have hwatched : (s.watched old new).TxOrderly := fun u => by
    rw [State.watched_txQueue]
    refine (h u).congr rfl ?_
    rw [TxQueue.timeChange, List.map_map]
    exact List.map_congr_left fun e _ => e.timeChange_orderKey old new
  rw [State.timeChange_eq]
  refine State.TxOrderly.afterTransmit ?_
  obtain heq | ⟨u, _, _, hwaiting, _, ⟨_, heq⟩ | ⟨_, _, heq⟩⟩ := (s.watched old new).deadlineChange_cases old new <;>
    rw [heq]
  · exact hwatched
  · exact ((hwatched.calm_of_waiting hwaiting).finishEntry u .lateDropped).orderly
  · exact ((hwatched.calm_of_waiting hwaiting).congr (t := State.setTxFramer _ _) rfl).orderly

/-- At a boundary the framer may note a backward set, but sends what it sent (log 9). -/
theorem State.TxOrderly.noteBoundary (h : s.TxOrderly) : s.noteBoundary.TxOrderly := by
  unfold State.noteBoundary
  split
  · intro u
    have hsending : (s.setTxFramer s.txf.state.noteSetBack).headSending u = s.headSending u := by
      simp only [State.headSending, State.setTxFramer_txf, TxFramerState.noteSetBack]
      cases s.txf.state with
      | waitingLine v armed setBack => cases armed <;> rfl
      | idle | sending => rfl
    rw [hsending]
    exact h u
  · exact h

/-! ### The moves of the transmit side -/

theorem State.TxOrderly.withdrawEntry (h : s.TxOrderly) (u : TxQueueId) (place : Nat) (r : ReportResult) :
    (s.withdrawEntry u place r).TxOrderly := by
  have hleft := h.leaveWithReport u place r
  unfold State.withdrawEntry
  dsimp only
  split
  next hwaiting =>
    refine State.TxCalm.orderly ((hleft.calm fun a ha => ?_).congr rfl)
    simp only [State.leaveWithReport_frame] at ha
    simp [State.headWaiting, ha] at hwaiting
  next => exact hleft

theorem State.TxOrderly.discardOldest (h : s.TxOrderly) (u : TxQueueId) : (s.discardOldest u).TxOrderly := by
  have hleft := h.removeEntry u (s.oldestNotSending u)
  unfold State.discardOldest
  dsimp only
  split
  next hwaiting =>
    refine State.TxCalm.orderly ((hleft.calm fun a ha => ?_).congr rfl)
    simp only [State.removeEntry_frame] at ha
    simp [State.headWaiting, ha] at hwaiting
  next => exact hleft

theorem State.TxOrderly.completeSoftReset (h : s.TxOrderly) : s.completeSoftReset.TxOrderly :=
  h.congr (by simp) (by simp)

/-- A waiting head that begins to be sent (R136). -/
theorem State.TxOrderly.beginAttempt (h : s.TxOrderly) {u : TxQueueId} {armed setBack : Bool} {e : TxEntry}
    {rest : List TxEntry} (hwaiting : s.txf.state = .waitingLine u armed setBack)
    (hentries : (s.txQueue u).entries = e :: rest) : (s.beginAttempt u e).TxOrderly := by
  have hcalm := h.calm_of_waiting hwaiting
  intro v
  have hqueue : (s.beginAttempt u e).txQueue v = (s.setHead u _).txQueue v := rfl
  rw [hqueue, State.headSending_of_sending rfl, State.setHead, State.txQueue_setTxQueue]
  split
  next heq =>
    subst heq
    simp only [hentries, List.tail_cons, decide_true]
    exact (hcalm v).attempt hentries rfl rfl
  next => exact (hcalm v).of_calm

theorem TxEntry.accepted_orderKey (e : TxEntry) (position : Nat) (now : Stamp) :
    (e.accepted position now).orderKey = e.orderKey := by
  unfold TxEntry.accepted
  split <;> rfl

/-- A byte accepted from the head, or the last one, with which it leaves (R140, R141). -/
theorem State.TxOrderly.acceptByte (h : s.TxOrderly) {a : Attempt} {e : TxEntry} {rest : List TxEntry}
    (hsending : s.txf.state = .sending a) (hentries : (s.txQueue a.queue).entries = e :: rest) :
    (s.acceptByte a e).TxOrderly := by
  have hheld : (s.setHead a.queue (e.accepted a.position s.time.stamp)).TxOrderly :=
    h.set a.queue rfl (by simp [hentries, TxEntry.accepted_orderKey])
  unfold State.acceptByte
  dsimp only
  split
  · intro v
    rw [State.headSending_of_sending rfl]
    have hv := hheld v
    rwa [State.headSending_of_sending (show (s.setHead a.queue _).txf.state = .sending a from hsending)] at hv
  · refine (State.TxCalm.orderly ?_).afterTransmit
    exact hheld.calm_of_headRemoved (show (s.setHead a.queue _).txf.state = .sending a from hsending)
      fun v => State.finishEntry_txQueue _ _ v _

/-- A head within the retry limit waits for the line again (R142). -/
theorem State.TxOrderly.retryEntry (h : s.TxOrderly) {a : Attempt} {e : TxEntry} {rest : List TxEntry}
    (hsending : s.txf.state = .sending a) (hentries : (s.txQueue a.queue).entries = e :: rest)
    (hretry : e.mayRetry (s.txQueue a.queue).config s.time.now = true) : (s.retryEntry a.queue).TxOrderly := by
  have hlimit : e.attempts ≤ (s.txQueue a.queue).config.retryLimit := by
    simp only [TxEntry.mayRetry, Bool.and_eq_true, decide_eq_true_eq] at hretry
    exact hretry.1
  have hcalm : s.TxCalm := fun v => by
    have hv := h v
    by_cases heq : a.queue = v
    · subst heq
      exact hv.calm_of_head hentries hlimit
    · rwa [State.headSending_of_sending hsending, decide_eq_false heq] at hv
  unfold State.retryEntry
  split
  · exact (hcalm.enterWaiting a.queue).orderly
  · exact (hcalm.congr (t := s.setTxFramer .idle) rfl).orderly

/-- SOFT_RESET withdraws a waiting head and cuts one that is being sent (R147). -/
theorem State.TxOrderly.softResetTransmit (h : s.TxOrderly) : s.softResetTransmit.TxOrderly := by
  unfold State.softResetTransmit
  split
  next => exact h
  next u _ _ hwaiting =>
    refine State.TxCalm.orderly (((h.removeEntry u 0).calm fun a ha => ?_).congr rfl)
    simp only [State.removeEntry_frame, hwaiting, reduceCtorEq] at ha
  next a hsending =>
    intro v
    rw [State.headSending_of_sending rfl]
    have hv := h v
    rwa [State.headSending_of_sending hsending] at hv

theorem State.TxOrderly.acceptSoftReset (h : s.TxOrderly) : s.acceptSoftReset.TxOrderly := by
  have hblocks : s.softResetBlocks.TxOrderly := fun u => by
    rw [State.softResetBlocks_txQueue, State.headSending, (s.softResetBlocks_frame).2.2.2.2.2.2.2.2.1]
    exact (h u).congr rfl rfl
  rw [State.acceptSoftReset_eq]
  have hcut := hblocks.softResetTransmit
  exact (hcut.congr (t := State.clearReports _) rfl rfl).completeSoftReset.afterTransmit

/-- Every move keeps the transmit queues orderly. -/
theorem State.Moves.txOrderly (h : s.Moves t) (hs : s.TxOrderly) : t.TxOrderly := by
  cases h
  -- moves that leave the transmit side
  case writeTime | popReport | adjustRx | openWindow | closeWindow => exact hs
  case startByte | otherByte | lineRxOff | startRxFlush | rxFlushRemoval | releaseWindow | beginStaging | abandon =>
    exact hs.congr (by simp) (by simp)
  case hardwareReset =>
    intro u
    rw [State.hardwareReset_txQueue]
    exact ⟨by decide, List.Pairwise.nil, by decide, by decide, fun k hk => by cases hk⟩
  -- time
  case boundary =>
    exact (hs.noteBoundary.congr (t := State.raiseIf { s.noteBoundary with time := s.time.boundary } _ _) (by simp)
      (by simp)).timeChange _ _
  case countingEdge =>
    exact (hs.congr (t := State.raiseIf { s with time := s.time.countEdge } _ _) (by simp) (by simp)).timeChange _ _
  -- the queues
  case submit r _ _ hroom horder =>
    refine State.TxOrderly.afterTransmit fun v => ?_
    change ((s.setTxQueue r.queue _).txQueue v).Orderly (s.headSending v)
    rw [State.txQueue_setTxQueue]
    split
    next heq => exact heq ▸ (hs v).append (heq ▸ hroom) (heq ▸ horder) rfl
    next => exact hs v
  case configureTx u g hempty hretry =>
    intro v
    change ((s.setTxQueue u _).txQueue v).Orderly (s.headSending v)
    rw [State.txQueue_setTxQueue]
    split
    · simp only [TxQueue.Orderly, hempty]
      exact ⟨by simp, by simp, hretry, by simp, by simp⟩
    · exact hs v
  case pauseTx u => exact hs.set u (x := { s.txQueue u with paused := true }) rfl rfl
  case startTx u => exact (hs.set u (x := { s.txQueue u with paused := false }) rfl rfl).afterTransmit
  case startTxFlush u _ =>
    have hflagged := hs.set u (x := { s.txQueue u with flush := true }) rfl rfl
    exact (hflagged.congr (t := (s.setTxQueue u { s.txQueue u with flush := true }).startLong (.txFlush u))
      rfl rfl).completeTxFlush
  case withdraw u place r _ _ => exact (hs.withdrawEntry u place r).afterTransmit
  -- the framer
  case launch u place e hplace =>
    refine State.TxOrderly.afterTransmit (hs.set u rfl ?_)
    obtain ⟨hlt, rfl⟩ := List.getElem?_eq_some_iff.mp hplace
    have hkey : (s.txQueue u).entries[place].orderKey =
        ((s.txQueue u).entries.map TxEntry.orderKey)[place]'(by simpa using hlt) := by simp
    rw [List.map_set]
    change List.set _ place (s.txQueue u).entries[place].orderKey = _
    rw [hkey, List.set_getElem_self]
  case expire u _ hwaiting => exact ((hs.calm_of_waiting hwaiting).finishEntry u _).orderly.afterTransmit
  case release u _ hwaiting => exact ((hs.calm_of_waiting hwaiting).congr (t := s.releaseDeadline u) rfl).orderly
  case beginAttempt hwaiting hentries => exact (hs.beginAttempt hwaiting hentries).afterTransmit
  case endCut a hsending _ =>
    have hcalm : (s.removeEntry a.queue 0).TxCalm :=
      hs.calm_of_headRemoved hsending fun v => State.removeEntry_txQueue s _ v 0
    exact ((hcalm.congr (t := (s.removeEntry a.queue 0).setTxFramer .idle) rfl).orderly.completeSoftReset).afterTransmit
  case acceptByte hsending _ hentries => exact hs.acceptByte hsending hentries
  case retry hsending _ hentries hretry => exact (hs.retryEntry hsending hentries hretry).afterTransmit
  case abort a hsending _ =>
    exact (hs.calm_of_headRemoved hsending fun v => State.finishEntry_txQueue s _ v _).orderly.afterTransmit
  case lineTxOn => exact (hs.congr (t := { s with txf := { s.txf with lineTx := true } }) rfl rfl).afterTransmit
  case lineTxOff =>
    unfold State.lineTxOff
    dsimp only
    split
    next hwaiting => exact ((hs.calm_of_waiting hwaiting).congr (t := State.setTxFramer _ .idle) rfl).orderly
    next => exact hs.congr rfl rfl
  -- SOFT_RESET
  case acceptSoftReset => exact hs.acceptSoftReset
  case softResetRxRemoval => exact (hs.congr (by simp) (by simp)).afterTransmit
  case softResetTxRemoval u _ _ => exact (hs.discardOldest u).completeSoftReset.afterTransmit

theorem State.txOrderly_iff : s.TxOrderly ↔ s.DepthsKept ∧ s.LaunchesOrdered ∧ s.AttemptsBounded := by
  have hqueue (u : TxQueueId) : (s.txQueue u).Orderly (s.headSending u) ↔
      (s.txQueue u).entries.length ≤ (s.txQueue u).config.depth ∧ (s.txQueue u).entries.Pairwise TxEntry.notAfter ∧
        (s.txQueue u).config.retryLimit ≤ 7 ∧ (∀ e ∈ (s.txQueue u).entries.tail, e.attempts = 0) ∧
        ∀ e, (s.txQueue u).entries.head? = some e →
          e.attempts ≤ (s.txQueue u).config.retryLimit + (if s.headSending u then 1 else 0) := by
    refine ⟨fun ⟨hdepth, horder, hlimit, htail, hhead⟩ => ⟨by simpa using hdepth, ?_, hlimit, ?_, ?_⟩,
      fun ⟨hdepth, horder, hlimit, htail, hhead⟩ => ⟨by simpa using hdepth, ?_, hlimit, ?_, ?_⟩⟩
    · exact (List.pairwise_map (f := TxEntry.orderKey)).mp horder
    · exact fun e he => htail e.orderKey (by rw [← List.map_tail]; exact List.mem_map_of_mem he)
    · exact fun e he => hhead e.orderKey (by simp [he])
    · exact List.pairwise_map.mpr horder
    · rw [← List.map_tail]
      rintro _ hk
      obtain ⟨e, he, rfl⟩ := List.mem_map.mp hk
      exact htail e he
    · rw [List.head?_map]
      rintro _ hk
      obtain ⟨e, he, rfl⟩ := Option.map_eq_some_iff.mp hk
      exact hhead e he
  refine ⟨fun h => ⟨fun u => ?_, fun u => ?_, fun u => ?_⟩, fun ⟨hdepths, hlaunches, hattempts⟩ u =>
    (hqueue u).mpr ⟨hdepths u, hlaunches u, hattempts u⟩⟩ <;>
  obtain ⟨hdepth, horder, hattempts⟩ := (hqueue u).mp (h u)
  · exact hdepth
  · exact horder
  · exact hattempts

/-- Settles O55: the three statements together say that every queue is orderly, which every move keeps. -/
theorem everyStepKeepsTransmitQueuesInOrder : Obligations.EveryStepKeepsTransmitQueuesInOrder := by
  intro s t hdepths hlaunches hattempts hstep
  refine State.txOrderly_iff.mp (step_keeps (P := State.TxOrderly) (fun _ _ halike hs => ?_)
    (fun _ _ hmoves hs => hmoves.txOrderly hs) hstep (State.txOrderly_iff.mpr ⟨hdepths, hlaunches, hattempts⟩))
  exact hs.congr halike.txq (by rw [halike.txf])

end Sys2Proof.Machine
end

section
/-! Link times as numbers, passing and releasing (R11, R12), and what the scheduler selects (R132). -/

namespace Sys2Proof.Machine

/-! ### Link times as numbers (00, Link Time) -/

/-- A link time as a number of fine units, 4096 to the coarse tick: the order of link times is that of these numbers. -/
def LinkTime.val (t : LinkTime) : Nat := t.coarse.toNat * 4096 + t.fine.toNat

variable {a b T : LinkTime}

theorem LinkTime.val_inj : a.val = b.val ↔ a = b := by
  refine ⟨fun h => ?_, fun h => h ▸ rfl⟩
  have ha := a.fine.isLt
  have hb := b.fine.isLt
  unfold LinkTime.val at h
  obtain ⟨ca, fa⟩ := a
  obtain ⟨cb, fb⟩ := b
  simp only [LinkTime.mk.injEq, ← BitVec.toNat_inj] at *
  omega

theorem LinkTime.before_iff : a.before b = true ↔ a.val < b.val := by
  have ha := a.fine.isLt
  have hb := b.fine.isLt
  simp only [LinkTime.before, LinkTime.val, Bool.or_eq_true, Bool.and_eq_true, decide_eq_true_eq, beq_iff_eq,
    BitVec.lt_def, ← BitVec.toNat_inj]
  omega

theorem LinkTime.before_eq_false_iff : a.before b = false ↔ b.val ≤ a.val := by
  rw [← Bool.not_eq_true, LinkTime.before_iff, not_lt]

theorem LinkTime.reachedAt_iff : T.reachedAt a = true ↔ T.val ≤ a.val := by
  rw [LinkTime.reachedAt, Bool.not_eq_true', LinkTime.before_eq_false_iff]

theorem LinkTime.reachedBy_iff : T.reachedBy a b = true ↔ a.val < T.val ∧ T.val ≤ b.val := by
  rw [LinkTime.reachedBy, Bool.and_eq_true, LinkTime.before_iff, LinkTime.reachedAt_iff]

theorem LinkTime.last_val : LinkTime.last.val = 2 ^ 44 - 1 := by decide

theorem LinkTime.val_le_last (a : LinkTime) : a.val ≤ LinkTime.last.val := by
  have hc := a.coarse.isLt
  have hf := a.fine.isLt
  rw [LinkTime.last_val]
  unfold LinkTime.val
  omega

/-- The time one fine unit later, but for the saturated value, which stays (R12). -/
theorem LinkTime.oneLater_val (T : LinkTime) : T.oneLater.val = if T = .last then T.val else T.val + 1 := by
  have hf := T.fine.isLt
  have hc := T.coarse.isLt
  obtain ⟨c, f⟩ := T
  dsimp only at hf hc
  unfold LinkTime.oneLater
  simp only [bne_iff_ne, ne_eq, LinkTime.last, LinkTime.mk.injEq, ← BitVec.toNat_inj, BitVec.toNat_allOnes,
    LinkTime.val]
  split
  next hfine =>
    rw [if_neg (by omega)]
    have hadd : (f + 1).toNat = f.toNat + 1 := by
      rw [BitVec.toNat_add_of_lt]
      · simp
      · simp; omega
    dsimp only
    omega
  next hfine =>
    split
    next hcoarse =>
      rw [if_neg (by omega)]
      have hadd : (c + 1).toNat = c.toNat + 1 := by
        rw [BitVec.toNat_add_of_lt]
        · simp
        · simp; omega
      have hzero : (0 : BitVec 12).toNat = 0 := rfl
      dsimp only
      omega
    next hcoarse =>
      rw [if_pos (by omega)]
      simp only [BitVec.toNat_allOnes]
      omega

/-- Passing a time is going from at or below it to above it (R12). -/
theorem LinkTime.passedBy_iff : T.passedBy a b = true ↔ a.val ≤ T.val ∧ T.val < b.val := by
  have hlast := LinkTime.val_le_last b
  rw [LinkTime.passedBy, Bool.and_eq_true, LinkTime.reachedBy_iff, LinkTime.passedAt, LinkTime.before_iff,
    LinkTime.oneLater_val]
  split
  next h =>
    subst h
    omega
  next => omega

/-- After a backward set, the saturated value releases its watcher where it is reached; any other is passed (R12). -/
theorem LinkTime.releasedBy_iff {setBack : Bool} :
    T.releasedBy a b setBack = true ↔
      T.passedBy a b = true ∨ (setBack = true ∧ T = .last ∧ a.val < T.val ∧ T.val ≤ b.val) := by
  rw [LinkTime.releasedBy, Bool.or_eq_true, Bool.and_eq_true, LinkTime.reachedBy_iff, LinkTime.passedBy_iff,
    LinkTime.oneLater_val]
  split
  next h => simp [h]
  next h =>
    simp only [h, false_and, and_false, or_false, or_iff_left_iff_imp]
    omega

theorem LinkTime.releasedAt_iff {setBack : Bool} :
    T.releasedAt a setBack = true ↔ T.val < a.val ∨ (setBack = true ∧ T = .last ∧ T.val ≤ a.val) := by
  have hle := LinkTime.val_le_last a
  rw [LinkTime.releasedAt, Bool.or_eq_true, Bool.and_eq_true, LinkTime.reachedAt_iff, LinkTime.passedAt,
    LinkTime.before_iff, LinkTime.oneLater_val]
  split
  next h => simp [h]
  next h =>
    simp only [h, false_and, and_false, or_false, or_iff_left_iff_imp]
    omega

/-- The saturated value as R12 writes it. -/
theorem LinkTime.last_eq : LinkTime.last = ⟨4294967295, 4095⟩ := rfl

/-- Settles O14: with link times as numbers, passing and releasing are inequalities, and a sum that fits has the sum of
the coarse parts. -/
theorem passingATimeAndSaturatedSums : Obligations.PassingATimeAndSaturatedSums := by
  refine ⟨fun T old new => ?_, fun old new => ?_, fun T old new => ⟨?_, fun hT => ?_⟩, fun old new => ?_, fun T n => ?_⟩
  · rw [LinkTime.passedBy_iff, LinkTime.before_eq_false_iff, LinkTime.before_iff]
  · rw [← Bool.not_eq_true, LinkTime.passedBy_iff]
    have hle := LinkTime.val_le_last new
    omega
  · rw [LinkTime.releasedBy, Bool.false_and, Bool.or_false]
  · rw [Bool.eq_iff_iff, LinkTime.releasedBy_iff]
    simp [show T ≠ .last from hT]
  · rw [LinkTime.releasedBy_iff, LinkTime.passedBy_iff, ← LinkTime.last_eq, LinkTime.before_iff,
      LinkTime.before_eq_false_iff]
    have hle := LinkTime.val_le_last new
    simp only [true_and]
    omega
  · refine ⟨fun hfits => ?_, fun hover => ?_⟩
    · rw [LinkTime.addTicks, if_pos hfits]
      refine ⟨?_, rfl⟩
      dsimp only
      rw [BitVec.toNat_add_of_lt] <;> rw [BitVec.toNat_setWidth_of_le (by decide)]
      omega
    · rw [LinkTime.addTicks, if_neg (by omega), LinkTime.last_eq]

end Sys2Proof.Machine
end


section
/-! Proofs about the short commands of the time base, the pool and the receive line (01, Commands to the Time Base; 02,
Configuration; 03, Enabling the Receive Line). -/

namespace Sys2Proof.Machine

variable {s : State}

/-! ### Operands that carry one number (R178) -/

/-- An owner that makes one change beside the completion; the unit it leaves is the unit it was given. -/
theorem shortCommand_done {code : Word} {owner : Operands → State → State × Result} {t : State} {res : Result}
    (htakes : s.takesCommands) (howner : owner s.cmd.operands (s.acceptCommand code) = (t.acceptCommand code, res)) :
    shortCommand code owner s = t.doneWith code res := by
  rw [shortCommand_taken s _ _ htakes, howner, State.complete_accept]

theorem choiceArg_zero : choiceArg 0 = some false := rfl

theorem choiceArg_one : choiceArg 1 = some true := rfl

theorem divisorArg_eq_some {w : Word} {d : BitVec 13} (hlow : 4 ≤ d.toNat) (hhigh : d.toNat ≤ 4096)
    (hword : w.toNat = d.toNat) : divisorArg w = some d := by
  have hd := d.isLt
  have hval : w.setWidth 13 = d := BitVec.eq_of_toNat_eq (by rw [BitVec.toNat_setWidth]; omega)
  simp [divisorArg, hword, hlow, hhigh, hval]

theorem divisorArg_eq_none {w : Word} (hrange : w.toNat < 4 ∨ 4096 < w.toNat) : divisorArg w = none := by
  simp only [divisorArg, ite_eq_right_iff]
  omega

/-! ### The time commands -/

/-- The one amount TIME_ADJUST refuses is written 8000h (R7). -/
theorem toInt_eq_lowest {w : Word} : w.toInt = -32768 ↔ w = 0x8000 := by
  rw [← BitVec.toInt_inj]
  exact Iff.rfl

/-- TIME_ADJUST past its two checks (R7). -/
theorem exec_timeAdjust_of_ready (htakes : s.takesCommands) (hother : s.cmd.operands.a ≠ 0x8000)
    (hslew : s.time.slew = 0) :
    exec .timeAdjust s = .next
      (({ s with time := { s.time with slew := s.cmd.operands.a.toInt } } : State).doneWith 0x12 .ok) :=
  congrArg _ (shortCommand_done htakes
    ((if_neg (mt toInt_eq_lowest.mp hother)).trans (if_neg (not_not_intro hslew))))

/-- Settles O8: each check of the three owners, in its order. -/
theorem timeCommandsBecomePending : Obligations.TimeCommandsBecomePending := by
  intro s htakes
  refine ⟨congrArg _ (shortCommand_done htakes rfl), fun d hlow hhigh hword => ?_, fun hrange => ?_, fun hlowest => ?_,
    fun hother hslew => ?_, fun hzero hslew => ?_, fun hother _ hslew => ?_⟩
  · exact congrArg _ (shortCommand_done htakes (by simp only [timeDivisor, divisorArg_eq_some hlow hhigh hword]; rfl))
  · exact congrArg _ (shortCommand_answer htakes (by simp only [timeDivisor, divisorArg_eq_none hrange]))
  · exact congrArg _ (shortCommand_answer htakes (if_pos (toInt_eq_lowest.mpr hlowest)))
  · exact congrArg _ (shortCommand_answer htakes ((if_neg (mt toInt_eq_lowest.mp hother)).trans (if_pos hslew)))
  · have hsame : ({ s with time := { s.time with slew := 0 } } : State) = s := by rw [← hslew]
    have hadjust := exec_timeAdjust_of_ready htakes (by rw [hzero]; decide) hslew
    rw [hadjust, hzero, BitVec.ofNat_eq_ofNat, BitVec.toInt_zero, hsame]
  · exact exec_timeAdjust_of_ready htakes hother hslew

/-- Settles O12: the capture, and the three words that read it. -/
theorem timeReadCapturesTheSnapshot : Obligations.TimeReadCapturesTheSnapshot := by
  intro s hreset
  refine ⟨_, ?_, rfl, rfl, rfl, rfl⟩
  change execTimeCHiRead s = _
  simp only [execTimeCHiRead, State.unlessReset_of_released _ hreset]
  rfl

/-! ### POOL_CONFIG -/

/-- An event raised under two conditions changes the event status alone. -/
theorem State.raiseIf_and (P Q : Prop) [Decidable P] [Decidable Q] (e : Event) :
    s.raiseIf (decide P && decide Q) e =
      { s with irq := { s.irq with status := if P ∧ Q then s.irq.status ||| e.mask else s.irq.status } } := by
  by_cases hboth : P ∧ Q
  · simp [State.raiseIf, State.raise, hboth]
  · have hfails : (decide P && decide Q) = false := by rw [Bool.and_eq_false_imp]; simpa using hboth
    simp only [State.raiseIf, hfails, if_neg hboth]
    rfl

/-- Settles O17. -/
theorem poolConfigChangesThreeValuesTogether : Obligations.PoolConfigChangesThreeValuesTogether := by
  intro s htakes
  refine ⟨fun ha hb hc => ?_, fun hrange => ?_⟩
  · refine congrArg _ (shortCommand_done htakes ?_)
    have hargs : poolArgs s.cmd.operands =
        some (s.cmd.operands.a.toNat, s.cmd.operands.b.toNat, s.cmd.operands.c.toNat) := by
      simp only [poolArgs, numberArg_eq_some.mpr ⟨rfl, Nat.zero_le _, ha⟩, numberArg_eq_some.mpr ⟨rfl, Nat.zero_le _, hb⟩,
        numberArg_eq_some.mpr ⟨rfl, Nat.zero_le _, hc⟩]
      rfl
    simp only [poolConfigure, hargs, State.raiseIf_and]
    rfl
  · refine congrArg _ (shortCommand_answer htakes ?_)
    have hargs : poolArgs s.cmd.operands = none := by
      simp only [poolArgs, Option.bind_eq_bind, Option.bind_eq_none_iff]
      intro cells hcells descs hdescs
      have hlow : numberArg 0 1024 s.cmd.operands.c = none := by
        have hcells' := mt numberArg_eq_none.mpr (by rw [hcells]; simp)
        have hdescs' := mt numberArg_eq_none.mpr (by rw [hdescs]; simp)
        exact numberArg_eq_none.mpr (by omega)
      simp [hlow]
    simp only [poolConfigure, hargs]

/-! ### LINE_RX -/

/-- Reception turned off while nothing is filling (R36, R48). -/
theorem State.lineRxOff_of_empty (hfilling : s.fillingCells = none) :
    s.lineRxOff = { s with rxf := { s.rxf with lineRx := false, state := .hunt } } := by
  simp only [State.lineRxOff, State.returnFilling, hfilling]

/-- Reception turned off returns the storage of the packet in progress (R26, R48). -/
theorem State.lineRxOff_of_filling {n : Nat} (hfilling : s.fillingCells = some n) :
    s.lineRxOff = { s with rxf := { s.rxf with lineRx := false, state := .hunt },
                           pool := { s.pool with freeCells := s.pool.freeCells + n
                                                 freeDescs := s.pool.freeDescs + 1 } } := by
  simp only [State.lineRxOff, State.returnFilling, hfilling]
  rfl

theorem State.lineRxOff_acceptCommand (code : Word) :
    (s.acceptCommand code).lineRxOff = s.lineRxOff.acceptCommand code := by
  have hsame : (s.acceptCommand code).fillingCells = s.fillingCells := rfl
  cases hfilling : s.fillingCells with
  | none => rw [State.lineRxOff_of_empty hfilling, State.lineRxOff_of_empty (hsame.trans hfilling)]; rfl
  | some n => rw [State.lineRxOff_of_filling hfilling, State.lineRxOff_of_filling (hsame.trans hfilling)]; rfl

theorem exec_lineRx_of (htakes : s.takesCommands) {on clear : Bool} (ha : choiceArg s.cmd.operands.a = some on)
    (hb : choiceArg s.cmd.operands.b = some clear) :
    exec .lineRx s = .next ((if clear then (if on then s.lineRxOn else s.lineRxOff).clearFramerCounters
      else if on then s.lineRxOn else s.lineRxOff).doneWith 0x20 .ok) := by
  refine congrArg _ (shortCommand_done htakes ?_)
  simp only [lineRxSet, ha, hb, State.lineRxOff_acceptCommand]
  cases on <;> cases clear <;> rfl

/-- Settles O25: LINE_RX by its two operands, with the packet in progress when it is turned off. -/
theorem lineRxTurnsReceptionOnAndOff : Obligations.LineRxTurnsReceptionOnAndOff := by
  refine ⟨fun s data sop eop err hoff => ?_, fun s htakes => ?_⟩
  · change execLineByte data sop eop err s = _
    simp [execLineByte, State.unlessReset, hoff]
  have hexec {on clear : Bool} (ha : choiceArg s.cmd.operands.a = some on)
      (hb : choiceArg s.cmd.operands.b = some clear) := exec_lineRx_of htakes ha hb
  refine ⟨fun hrange => ?_, fun ha hb => ?_, fun ha hb => ?_, fun ha hb => ⟨fun hfilling => ?_, fun n hfilling => ?_⟩,
    fun ha hb => ?_⟩
  · refine congrArg _ (shortCommand_answer htakes ?_)
    simp only [lineRxSet]
    split
    next on clear ha hb =>
      rcases hrange with hrange | hrange
      · rw [choiceArg_eq_none.mpr hrange] at ha; cases ha
      · rw [choiceArg_eq_none.mpr hrange] at hb; cases hb
    next => rfl
  · exact hexec (ha ▸ choiceArg_one) (hb ▸ choiceArg_zero)
  · exact hexec (ha ▸ choiceArg_one) (hb ▸ choiceArg_one)
  · rw [← State.lineRxOff_of_empty hfilling]
    exact hexec (ha ▸ choiceArg_zero) (hb ▸ choiceArg_zero)
  · rw [← State.lineRxOff_of_filling hfilling]
    exact hexec (ha ▸ choiceArg_zero) (hb ▸ choiceArg_zero)
  · rw [hexec (ha ▸ choiceArg_zero) (hb ▸ choiceArg_one)]
    cases hfilling : s.fillingCells with
    | none => simp only [State.lineRxOff_of_empty hfilling]; rfl
    | some n => simp only [State.lineRxOff_of_filling hfilling]; rfl

end Sys2Proof.Machine
end


section
/-! Proofs about the commands on one receive queue (05, Configuration; Enabling and Disabling). -/

namespace Sys2Proof.Machine

variable {s : State}

/-! ### Commands on one receive queue -/

section

variable {q : RxQueueId} {f : RxQueue → Option RxQueue} {code : Word}

theorem shortCommand_onRxQueueIf_ok (htakes : s.takesCommands) (hqueue : s.cmd.operands.a.toNat = q.val) {x : RxQueue}
    (haccepts : f (s.rxQueue q) = some x) :
    shortCommand code (onRxQueueIf f) s = (s.setRxQueue q x).doneWith code .ok := by
  refine shortCommand_done htakes ?_
  simp only [onRxQueueIf, rxQueueArg_eq_some.mpr hqueue, State.rxQueue_congr (State.acceptCommand_rxq s code), haccepts]
  rfl

theorem shortCommand_onRxQueueIf_wrongState (htakes : s.takesCommands) (hqueue : s.cmd.operands.a.toNat = q.val)
    (hrefuses : f (s.rxQueue q) = none) :
    shortCommand code (onRxQueueIf f) s = s.doneWith code .wrongState := by
  refine shortCommand_answer htakes ?_
  simp only [onRxQueueIf, rxQueueArg_eq_some.mpr hqueue, State.rxQueue_congr (State.acceptCommand_rxq s code), hrefuses]

end

/-! ### RX_DISABLE, RX_REARM and RX_RESUME -/

section

variable {r : RxQueue}

theorem RxQueue.rearm_of_batch (hstate : r.state = .stopped .batchDone ∨ r.state = .stopped .relayMissed) :
    r.rearm = some { r with state := .run, batchCount := 0, batchComplete := false } := by
  rcases hstate with hstate | hstate <;> simp [RxQueue.rearm, hstate]

theorem RxQueue.rearm_of_other (hbatch : r.state ≠ .stopped .batchDone) (hrelay : r.state ≠ .stopped .relayMissed) :
    r.rearm = none := by
  unfold RxQueue.rearm
  split
  next hstate => exact absurd hstate hbatch
  next hstate => exact absurd hstate hrelay
  next => rfl

theorem RxQueue.resume_of_heldGrace (hstate : r.state = .held .grace) :
    r.resume = some { r with state := .grace } := by
  simp [RxQueue.resume, hstate]

theorem RxQueue.resume_of_other (hother : ∀ b, r.state ≠ .held b) : r.resume = none := by
  unfold RxQueue.resume
  split
  next hstate => exact absurd hstate (hother _)
  next hstate => exact absurd hstate (hother _)
  next => rfl

end

/-- Settles O35, each command by the states it acts in. -/
theorem rxDisableRearmAndResume : Obligations.RxDisableRearmAndResume := by
  intro s q htakes hqueue r
  refine ⟨congrArg _ (shortCommand_onRxQueue_ok _ _ htakes hqueue), fun hstate => ?_, fun hbatch hrelay => ?_,
    fun hstate => ?_, fun hstate => ?_, fun hother => ?_⟩
  · exact congrArg _ (shortCommand_onRxQueueIf_ok htakes hqueue (RxQueue.rearm_of_batch hstate))
  · exact congrArg _ (shortCommand_onRxQueueIf_wrongState htakes hqueue (RxQueue.rearm_of_other hbatch hrelay))
  · exact congrArg _ (shortCommand_onRxQueueIf_ok htakes hqueue (RxQueue.resume_of_heldRun hstate))
  · exact congrArg _ (shortCommand_onRxQueueIf_ok htakes hqueue (RxQueue.resume_of_heldGrace hstate))
  · exact congrArg _ (shortCommand_onRxQueueIf_wrongState htakes hqueue (RxQueue.resume_of_other hother))

/-! ### RX_ENABLE -/

section

variable {r : RxQueue} {now : LinkTime}

/-- The start condition of an enabled queue is met at once: NOW, or AT_TIME with its time reached (R74). -/
def RxQueue.Runs (now : LinkTime) (r : RxQueue) : Prop :=
  r.window.start = .now ∨ ∃ T, r.window.start = .atTime T ∧ now.before T = false

/-- The stop time of the queue is present and reached (R74). -/
def RxQueue.Stops (now : LinkTime) (r : RxQueue) : Prop :=
  ∃ S, r.window.stop = some S ∧ now.before S = false

/-- What RX_ENABLE clears, and the state of the start condition (R74). -/
def RxQueue.entered (now : LinkTime) (r : RxQueue) : RxQueue :=
  let fresh := { r with batchCount := 0, batchComplete := false, pendingLoss := 0 }
  match fresh.window.start with
  | .now => fresh.startRunning
  | .atTime t => if t.reachedAt now then fresh.startRunning else { fresh with state := .pending }
  | .atMarker => { fresh with state := .pending }

theorem RxQueue.entered_of_runs (hruns : r.Runs now) :
    r.entered now =
      ({ r with batchCount := 0, batchComplete := false, pendingLoss := 0 } : RxQueue).startRunning := by
  rcases hruns with hnow | ⟨T, hstart, hreached⟩
  · simp [RxQueue.entered, hnow]
  · simp [RxQueue.entered, hstart, LinkTime.reachedAt, hreached]

theorem RxQueue.entered_of_waits (hwaits : ¬r.Runs now) :
    r.entered now = { r with batchCount := 0, batchComplete := false, pendingLoss := 0, state := .pending } := by
  simp only [RxQueue.Runs, not_or, not_exists, not_and] at hwaits
  obtain ⟨hnow, hahead⟩ := hwaits
  cases hstart : r.window.start with
  | now => exact absurd hstart hnow
  | atTime T => simp [RxQueue.entered, hstart, LinkTime.reachedAt, hahead T hstart]
  | atMarker => simp [RxQueue.entered, hstart]

theorem RxQueue.enable_eq_entered (r : RxQueue) (now : LinkTime) :
    r.enable now = match (r.entered now).window.stop with
      | some t => if t.reachedAt now then (r.entered now).stopWith .windowEnd else r.entered now
      | none => r.entered now := rfl

theorem RxQueue.entered_window (r : RxQueue) (now : LinkTime) : (r.entered now).window = r.window := by
  by_cases hruns : r.Runs now
  · rw [RxQueue.entered_of_runs hruns]; rfl
  · rw [RxQueue.entered_of_waits hruns]

theorem RxQueue.enable_of_stops (hstops : r.Stops now) : r.enable now = (r.entered now).stopWith .windowEnd := by
  obtain ⟨S, hstop, hreached⟩ := hstops
  rw [RxQueue.enable_eq_entered, RxQueue.entered_window, hstop]
  simp [LinkTime.reachedAt, hreached]

theorem RxQueue.enable_of_goes_on (hgoes : ¬r.Stops now) : r.enable now = r.entered now := by
  simp only [RxQueue.Stops, not_exists, not_and] at hgoes
  rw [RxQueue.enable_eq_entered, RxQueue.entered_window]
  cases hstop : r.window.stop with
  | none => rfl
  | some S => simp [LinkTime.reachedAt, hgoes S hstop]

end

theorem exec_rxEnable_of_off {q : RxQueueId} (htakes : s.takesCommands) (hqueue : s.cmd.operands.a.toNat = q.val)
    (hoff : (s.rxQueue q).state = .off) {x : RxQueue} (henabled : (s.rxQueue q).enable s.time.now = x) :
    exec .rxEnable s = .next ((s.setRxQueue q x).doneWith 0x32 .ok) := by
  refine congrArg _ (shortCommand_done htakes ?_)
  simp only [onRxQueueIf, rxQueueArg_eq_some.mpr hqueue, State.acceptCommand_time,
    State.rxQueue_congr (State.acceptCommand_rxq s 0x32), RxQueue.enableIfOff, if_pos hoff, henabled]
  rfl

/-- Settles O34: the start condition and the stop time are weighed one after the other. -/
theorem rxEnableTakesTheStartCondition : Obligations.RxEnableTakesTheStartCondition := by
  intro s q htakes hqueue r fresh runs stops
  have hexec {x : RxQueue} (hoff : r.state = .off) (henabled : r.enable s.time.now = x) :=
    exec_rxEnable_of_off htakes hqueue hoff henabled
  refine ⟨fun hon => ?_, fun hoff hruns hstops => ?_, fun hoff hruns hstops => ?_, fun hoff hruns hstops => ?_,
    fun hoff hruns hstops => ?_⟩
  · exact congrArg _ (shortCommand_onRxQueueIf_wrongState htakes hqueue
      (show (s.rxQueue q).enableIfOff s.time.now = none from if_neg hon))
  · exact hexec hoff (by rw [RxQueue.enable_of_goes_on hstops, RxQueue.entered_of_runs hruns]; rfl)
  · refine hexec hoff ?_
    rw [RxQueue.enable_of_stops hstops, RxQueue.entered_of_runs hruns]
    simp only [RxQueue.stopWith, RxQueue.startRunning, RxQueue.raise, BitVec.or_assoc]
    rfl
  · exact hexec hoff (by rw [RxQueue.enable_of_goes_on hstops, RxQueue.entered_of_waits hruns])
  · exact hexec hoff (by rw [RxQueue.enable_of_stops hstops, RxQueue.entered_of_waits hruns]; rfl)

/-! ### RX_CONFIG and RX_WINDOW -/

section

variable {o : Operands} {q : RxQueueId}

theorem modeArg_eq_some {w : Word} {mode : RxMode}
    (hword : w = match mode with | .continuous => 0 | .singleBatch => 1 | .relayBatch => 2) : modeArg w = some mode := by
  subst hword
  cases mode <;> rfl

theorem modeArg_eq_none {w : Word} (hrange : 2 < w.toNat) : modeArg w = none := by
  have hzero : w ≠ 0 := fun h => by rw [h] at hrange; simp at hrange
  have hone : w ≠ 1 := fun h => by rw [h] at hrange; simp at hrange
  have htwo : w ≠ 2 := fun h => by rw [h] at hrange; simp at hrange
  rw [modeArg, if_neg hzero, if_neg hone, if_neg htwo]

/-- A configuration in range is read from the words that spell it (R72). -/
theorem rxConfigArgs_eq_some (hqueue : o.a.toNat = q.val) {g : RxConfig}
    (hmode : o.b = match g.mode with | .continuous => 0 | .singleBatch => 1 | .relayBatch => 2)
    (hsize : o.c = g.batchSize) (hoverrun : o.d = match g.overrun with | .drop => 0 | .hold => 1)
    (hquota : o.e.toNat = g.quota) (hwatermark : o.f.toNat = g.watermark) (hsized : g.batchSize ≠ 0)
    (hquotaLe : g.quota ≤ 1024) (hwatermarkGe : 1 ≤ g.watermark) (hwatermarkLe : g.watermark ≤ 512) :
    rxConfigArgs o = some (q, g) := by
  have hpositive : 1 ≤ o.c.toNat := by
    rw [hsize]
    exact Nat.one_le_iff_ne_zero.mpr fun h => hsized (BitVec.eq_of_toNat_eq (by simpa using h))
  have hwidth : o.c.toNat ≤ 65535 := Nat.le_of_lt_succ o.c.isLt
  have hargs : numberArg 1 65535 o.c = some o.c.toNat := numberArg_eq_some.mpr ⟨rfl, hpositive, hwidth⟩
  obtain ⟨mode, size, overrun, quota, watermark⟩ := g
  have hchoice : choiceArg o.d = some (overrun == .hold) := by
    rw [hoverrun]
    cases overrun <;> rfl
  simp only [rxConfigArgs, rxQueueArg_eq_some.mpr hqueue, modeArg_eq_some hmode, hargs, hchoice,
    numberArg_eq_some.mpr ⟨hquota, Nat.zero_le _, hquotaLe⟩,
    numberArg_eq_some.mpr ⟨hwatermark, hwatermarkGe, hwatermarkLe⟩, Option.bind_eq_bind, Option.bind_some]
  subst hsize
  cases overrun <;> simp

theorem rxConfigArgs_eq_none (hqueue : o.a.toNat = q.val)
    (hrange : 2 < o.b.toNat ∨ o.c = 0 ∨ 1 < o.d.toNat ∨ 1024 < o.e.toNat ∨ o.f = 0 ∨ 512 < o.f.toNat) :
    rxConfigArgs o = none := by
  simp only [rxConfigArgs, rxQueueArg_eq_some.mpr hqueue, Option.bind_eq_bind, Option.bind_some]
  rcases hrange with hmode | hsize | hoverrun | hquota | hwatermark | hwatermark
  · simp [modeArg_eq_none hmode]
  · simp [numberArg_eq_none.mpr (.inl (show o.c.toNat < 1 by rw [hsize]; decide))]
  · simp [choiceArg_eq_none.mpr hoverrun]
  · simp [numberArg_eq_none.mpr (.inr hquota)]
  · simp [numberArg_eq_none.mpr (.inl (show o.f.toNat < 1 by rw [hwatermark]; decide))]
  · simp [numberArg_eq_none.mpr (.inr hwatermark)]

/-- A start condition is read from the words that spell it (R73). -/
theorem startArg_eq_some {start : StartCondition}
    (hstart : (o.b.extractLsb' 0 2 = 0 ∧ start = .now) ∨ (o.b.extractLsb' 0 2 = 2 ∧ start = .atMarker) ∨
      (o.b.extractLsb' 0 2 = 1 ∧ o.e.toNat ≤ 4095 ∧ start = .atTime ⟨o.c ++ o.d, o.e.setWidth 12⟩)) :
    startArg o = some start := by
  rcases hstart with ⟨hbits, hstart⟩ | ⟨hbits, hstart⟩ | ⟨hbits, hfine, hstart⟩
  · simp only [startArg, hbits, hstart]; rfl
  · simp only [startArg, hbits, hstart]; rfl
  · simp only [startArg, hbits, hstart, timeArg_of_le hfine]; rfl

theorem stopArg_eq_some {stop : Option LinkTime}
    (hstop : (o.b.getLsbD 4 = false ∧ stop = none) ∨
      (o.b.getLsbD 4 = true ∧ o.h.toNat ≤ 4095 ∧ stop = some ⟨o.f ++ o.g, o.h.setWidth 12⟩)) :
    stopArg o = some stop := by
  rcases hstop with ⟨hbit, hstop⟩ | ⟨hbit, hfine, hstop⟩
  · rw [stopArg, hbit, hstop]; rfl
  · rw [stopArg, hbit, hstop, timeArg_of_le hfine]; rfl

/-- A window is read from the words that spell it (R73). -/
theorem rxWindowArgs_eq_some (hqueue : o.a.toNat = q.val) {w : RxWindow}
    (hstart : (o.b.extractLsb' 0 2 = 0 ∧ w.start = .now) ∨ (o.b.extractLsb' 0 2 = 2 ∧ w.start = .atMarker) ∨
      (o.b.extractLsb' 0 2 = 1 ∧ o.e.toNat ≤ 4095 ∧ w.start = .atTime ⟨o.c ++ o.d, o.e.setWidth 12⟩))
    (hstop : (o.b.getLsbD 4 = false ∧ w.stop = none) ∨
      (o.b.getLsbD 4 = true ∧ o.h.toNat ≤ 4095 ∧ w.stop = some ⟨o.f ++ o.g, o.h.setWidth 12⟩)) :
    rxWindowArgs o = some (q, w) := by
  simp [rxWindowArgs, rxQueueArg_eq_some.mpr hqueue, startArg_eq_some hstart, stopArg_eq_some hstop]

theorem rxWindowArgs_eq_none
    (hrange : o.b.extractLsb' 0 2 = 3 ∨ (o.b.extractLsb' 0 2 = 1 ∧ 4095 < o.e.toNat) ∨
      (o.b.getLsbD 4 = true ∧ 4095 < o.h.toNat)) : rxWindowArgs o = none := by
  simp only [rxWindowArgs, Option.bind_eq_bind]
  rcases hrange with hbits | ⟨hbits, hfine⟩ | ⟨hbit, hfine⟩
  · have hstart : startArg o = none := by simp only [startArg, hbits]; rfl
    simp [hstart]
  · have hstart : startArg o = none := by simp only [startArg, hbits, timeArg_of_gt hfine]; rfl
    simp [hstart]
  · simp [stopArg, hbit, timeArg_of_gt hfine]

theorem RxWindow.stopsBeforeStart_iff (w : RxWindow) :
    w.stopsBeforeStart = true ↔ ∃ T S, w.start = .atTime T ∧ w.stop = some S ∧ T.before S = false := by
  unfold RxWindow.stopsBeforeStart
  split
  next T S hstart hstop => simp [hstart, hstop]
  next hnone =>
    simp only [Bool.false_eq_true, false_iff]
    rintro ⟨T, S, hstart, hstop, -⟩
    exact hnone T S hstart hstop

end

/-- Settles O33: the operands in and out of range, then the state of the queue. -/
theorem rxConfigAndRxWindow : Obligations.RxConfigAndRxWindow := by
  intro s q htakes hqueue r o
  have hsame (code : Word) : (s.acceptCommand code).rxQueue q = r := rfl
  refine ⟨fun g hmode hsize hoverrun hquota hwatermark hsized hquotaLe hmarkGe hmarkLe => ?_, fun hrange => ?_,
    fun w hstart hstop => ?_, fun hrange => ?_⟩
  · have hargs := rxConfigArgs_eq_some hqueue hmode hsize hoverrun
      hquota hwatermark hsized hquotaLe hmarkGe hmarkLe
    refine ⟨fun hoff hempty => congrArg _ (shortCommand_done htakes ?_),
      fun hwrong => congrArg _ (shortCommand_answer htakes ?_)⟩
    · simp only [rxConfigure, hargs, hsame, if_pos (And.intro hoff hempty)]
      rfl
    · simp only [rxConfigure, hargs, hsame, if_neg (not_and_or.mpr hwrong)]
  · exact congrArg _ (shortCommand_answer htakes (by simp only [rxConfigure, rxConfigArgs_eq_none (o := s.cmd.operands) hqueue hrange]))
  · intro stopsEarly
    have hargs : rxWindowArgs s.cmd.operands = some (q, w) := rxWindowArgs_eq_some hqueue hstart hstop
    have hearly := w.stopsBeforeStart_iff
    refine ⟨fun hon => congrArg _ (shortCommand_answer htakes ?_),
      fun hoff hstops => congrArg _ (shortCommand_answer htakes ?_),
      fun hoff hgoes => congrArg _ (shortCommand_done htakes ?_)⟩
    · simp only [rxSetWindow, hargs, hsame, if_pos hon]
    · simp only [rxSetWindow, hargs, hsame, if_neg (not_not_intro hoff), if_pos (hearly.mpr hstops)]
    · simp only [rxSetWindow, hargs, hsame, if_neg (not_not_intro hoff), if_neg (mt hearly.mp hgoes)]
      rfl
  · exact congrArg _ (shortCommand_answer htakes (by simp only [rxSetWindow, rxWindowArgs_eq_none (o := s.cmd.operands) hrange]))

end Sys2Proof.Machine
end


section
/-! Proofs about the commands to the channel table and the transmit sequence table (04). -/

namespace Sys2Proof.Machine

variable {s : State}

/-! ### The operands of CH_WRITE -/

section

variable {o : Operands} {c : ChannelId}

theorem choiceArg_of_word {w : Word} {b : Bool} (hword : w = if b then 1 else 0) : choiceArg w = some b := by
  subst hword
  cases b <;> rfl

theorem policyArg_of_word {w : Word} {p : Policy} (hword : w = match p with | .keep => 0 | .discard => 1) :
    policyArg w = some p := by
  subst hword
  cases p <;> rfl

theorem actionArg_of_word {w : Word} {a : Action} (hword : w = match a with | .drop => 0 | .queue => 1) :
    actionArg w = some a := by
  subst hword
  cases a <;> rfl

theorem policyArg_eq_none {w : Word} (hrange : 1 < w.toNat) : policyArg w = none := by
  simp [policyArg, choiceArg_eq_none.mpr hrange]

theorem actionArg_eq_none {w : Word} (hrange : 1 < w.toNat) : actionArg w = none := by
  simp [actionArg, choiceArg_eq_none.mpr hrange]

/-- A configuration is read from the words that spell it (R53). -/
theorem channelWriteArgs_eq_some {g : ChannelConfig} (hchannel : o.a.toNat = c.val)
    (haction : o.b = match g.action with | .drop => 0 | .queue => 1) (hqueue : o.c.toNat = g.queue.val)
    (herrored : o.d = match g.errored with | .keep => 0 | .discard => 1)
    (hcheck : o.e = match g.check with | .keep => 0 | .discard => 1)
    (hduplicate : o.f = match g.duplicate with | .keep => 0 | .discard => 1)
    (hsequence : o.g = if g.sequenceCheck then 1 else 0) (hreference : o.h = if g.reference then 1 else 0) :
    channelWriteArgs o = some (c, g) := by
  simp only [channelWriteArgs, channelArg_eq_some.mpr hchannel, actionArg_of_word haction,
    rxQueueArg_eq_some.mpr hqueue, policyArg_of_word herrored, policyArg_of_word hcheck, policyArg_of_word hduplicate,
    choiceArg_of_word hsequence, choiceArg_of_word hreference]
  rfl

theorem channelWriteArgs_eq_none (hchannel : o.a.toNat = c.val)
    (hrange : 1 < o.b.toNat ∨ 15 < o.c.toNat ∨ 1 < o.d.toNat ∨ 1 < o.e.toNat ∨ 1 < o.f.toNat ∨ 1 < o.g.toNat ∨
      1 < o.h.toNat) : channelWriteArgs o = none := by
  simp only [channelWriteArgs, channelArg_eq_some.mpr hchannel, Option.bind_eq_bind, Option.bind_some]
  rcases hrange with hb | hc | hd | he | hf | hg | hh
  · simp [actionArg_eq_none hb]
  · simp [rxQueueArg_eq_none.mpr hc]
  · simp [policyArg_eq_none hd]
  · simp [policyArg_eq_none he]
  · simp [policyArg_eq_none hf]
  · simp [choiceArg_eq_none.mpr hg]
  · simp [choiceArg_eq_none.mpr hh]

theorem sequenceArg_eq_some {w : Word} {v : BitVec 4} (hword : w.toNat = v.toNat) : sequenceArg w = some v := by
  have hv := v.isLt
  have hval : w.setWidth 4 = v := BitVec.eq_of_toNat_eq (by rw [BitVec.toNat_setWidth]; omega)
  simp only [sequenceArg, hword, hval]
  exact if_pos (by omega)

theorem sequenceArg_eq_none {w : Word} (hrange : 15 < w.toNat) : sequenceArg w = none :=
  if_neg (by omega)

end

/-! ### The commands on one channel -/

/-- No word of the register window shows the transmit sequence table (R67). -/
theorem State.readWord_setTxSequence (c : ChannelId) (v : BitVec 4) (addr : BitVec 6) :
    (s.setTxSequence c v).readWord addr = s.readWord addr := by
  have hdata : (s.setTxSequence c v).dataPortRead.host.lastRead = s.dataPortRead.host.lastRead := by
    have hopen : (s.setTxSequence c v).openRecord = s.openRecord := rfl
    unfold State.dataPortRead
    rw [State.setTxSequence_window, hopen]
    cases s.window.record with
    | none => rfl
    | some w => dsimp only; split_ifs <;> rfl
  unfold State.readWord
  rw [hdata]
  rfl

/-- Settles O31: each command by its operands. -/
theorem channelTableCommands : Obligations.ChannelTableCommands := by
  intro s c htakes hchannel
  have hargs : channelArg s.cmd.operands.a = some c := channelArg_eq_some.mpr hchannel
  refine ⟨fun g haction hqueue herrored hcheck hduplicate hsequence hreference => ?_, fun hrange => ?_, fun hkeep => ?_,
    fun hclear => ?_, fun hrange => ?_, fun v hvalue => ⟨?_, fun addr => State.readWord_setTxSequence c v addr⟩,
    fun hrange => ?_⟩
  · refine congrArg _ (shortCommand_done htakes ?_)
    simp only [chWrite, channelWriteArgs_eq_some (o := s.cmd.operands) hchannel haction hqueue herrored hcheck
      hduplicate hsequence hreference]
    rfl
  · exact congrArg _ (shortCommand_answer htakes
      (by simp only [chWrite, channelWriteArgs_eq_none (o := s.cmd.operands) hchannel hrange]))
  · refine congrArg _ (shortCommand_done htakes ?_)
    simp only [chSeqReset, hargs, hkeep, choiceArg_zero]
    rfl
  · refine congrArg _ (shortCommand_done htakes ?_)
    simp only [chSeqReset, hargs, hclear, choiceArg_one]
    rfl
  · exact congrArg _ (shortCommand_answer htakes (by simp only [chSeqReset, hargs, choiceArg_eq_none.mpr hrange]))
  · refine congrArg _ (shortCommand_done htakes ?_)
    simp only [txSeqSet, hargs, sequenceArg_eq_some hvalue]
    rfl
  · exact congrArg _ (shortCommand_answer htakes (by simp only [txSeqSet, hargs, sequenceArg_eq_none hrange]))

/-! ### CH_READ -/

theorem Policy.word_eq (p : Policy) : p.word = match p with | .keep => 0 | .discard => 1 := by cases p <;> rfl

theorem Action.word_eq (a : Action) : a.word = match a with | .drop => 0 | .queue => 1 := by cases a <;> rfl

/-- The words of CH_READ, with the channel in OPA, spell the configuration of the entry (R53, R54). -/
theorem channelWriteArgs_channelReadWords (c : ChannelId) (e : ChannelEntry) :
    channelWriteArgs ((channelReadWords e).put 0 (BitVec.ofNat 16 c.val)) = some (c, e.config) := by
  have hc := c.isLt
  have hq := e.config.queue.isLt
  exact channelWriteArgs_eq_some (by simp [Operands.put]; omega) (Action.word_eq _)
    (by simp [Operands.put, channelReadWords]; omega) (Policy.word_eq _) (Policy.word_eq _) (Policy.word_eq _) rfl rfl

/-- OPA of CH_READ: the duplicates counter above the last sequence and its present mark (R54). -/
theorem channelReadWords_a (e : ChannelEntry) :
    (channelReadWords e).a = BitVec.ofNat 16 (e.duplicatesDropped.toNat * 256 +
      (match e.lastSequence with | some n => 16 + n.toNat | none => 0)) := by
  have hdropped := e.duplicatesDropped.isLt
  have hshift : (e.duplicatesDropped.setWidth 16 <<< 8).toNat = e.duplicatesDropped.toNat * 256 := by
    simp [BitVec.toNat_shiftLeft, Nat.shiftLeft_eq]
    omega
  apply BitVec.eq_of_toNat_eq
  cases hlast : e.lastSequence with
  | none =>
    simp only [channelReadWords, hlast, BitVec.toNat_ofNat]
    simp only [BitVec.ofNat_eq_ofNat, BitVec.or_zero, hshift]
    omega
  | some n =>
    have hn := n.isLt
    have hlow : ((0x10 : Word) ||| n.setWidth 16).toNat = 16 + n.toNat := by
      rw [BitVec.or_comm, or_toNat_of_below 4 (by simp; omega) (by decide)]
      simp
      omega
    simp only [channelReadWords, hlast, BitVec.toNat_ofNat]
    rw [BitVec.or_comm, or_toNat_of_below 8 (by rw [hlow]; omega) (by rw [hshift]; omega), hlow, hshift]
    omega

/-- Settles O32. -/
theorem chReadGivesBackWhatChWriteTakes : Obligations.ChReadGivesBackWhatChWriteTakes := by
  intro s c htakes hchannel
  refine ⟨_, congrArg Host.Outcome.next (shortCommand_taken s 0x29 chRead htakes), ?_⟩
  simp only [chRead, channelArg_eq_some.mpr hchannel]
  exact ⟨rfl, channelReadWords_a _, fun w hw => hw ▸ channelWriteArgs_channelReadWords c _⟩

end Sys2Proof.Machine
end


section
/-! The words of the register window: fields put together, and the words of the oldest reference entry, of the oldest
report, of the open record, the window and staging (12, Register Map), with the pops and the window's commands. -/

namespace Sys2Proof.Machine

variable {s : State}

/-! ### Fields put together -/

/-- Fields from bit `k` up that do not overlap, with the number they spell. The checks are of the positions alone. -/
inductive Laid : Nat → List Word → Nat → Prop
  | nil {k : Nat} : Laid k [] 0
  | field {k n width low : Nat} {fields : List Word} {rest : Nat} (habove : Nat.ble k low = true)
      (hfits : Nat.ble (width + low) 16 = true) (hrest : Laid (width + low) fields rest) :
      Laid k (inField n width low :: fields) (n % 2 ^ width * 2 ^ low + rest)
  | bit {k low : Nat} {b : Bool} {fields : List Word} {rest : Nat} (habove : Nat.ble k low = true)
      (hfits : Nat.ble low 15 = true) (hrest : Laid (low + 1) fields rest) :
      Laid k (inBit b low :: fields) (flagAt b low + rest)

/-- Fields that lie above what is there already add to it. -/
theorem foldl_or_toNat_of_laid {k value : Nat} {fields : List Word} (hlaid : Laid k fields value) :
    ∀ acc : Word, acc.toNat < 2 ^ k → (fields.foldl (· ||| ·) acc).toNat = acc.toNat + value := by
  induction hlaid with
  | nil => exact fun acc _ => rfl
  | @field k n width low fields rest habove hfits hrest ih =>
    intro acc hacc
    have hlow : acc.toNat < 2 ^ low := hacc.trans_le (Nat.pow_le_pow_right (by decide) (Nat.le_of_ble_eq_true habove))
    have hword := inField_toNat n width low (Nat.le_of_ble_eq_true hfits)
    have hor := or_toNat_of_below low hlow (b := inField n width low) (hword ▸ Dvd.intro_left _ rfl)
    have hmod := Nat.mod_lt n (Nat.two_pow_pos width)
    have hbound : (acc ||| inField n width low).toNat < 2 ^ (width + low) := by
      rw [hor, hword, Nat.pow_add]
      calc acc.toNat + n % 2 ^ width * 2 ^ low < 2 ^ low + n % 2 ^ width * 2 ^ low := by omega
        _ = (n % 2 ^ width + 1) * 2 ^ low := by rw [Nat.add_mul]; omega
        _ ≤ 2 ^ width * 2 ^ low := Nat.mul_le_mul_right _ hmod
    rw [List.foldl_cons, ih _ hbound, hor, hword, Nat.add_assoc]
  | @bit k low b fields rest habove hfits hrest ih =>
    intro acc hacc
    have hlow : acc.toNat < 2 ^ low := hacc.trans_le (Nat.pow_le_pow_right (by decide) (Nat.le_of_ble_eq_true habove))
    have hword := inBit_toNat b low (Nat.lt_succ_of_le (Nat.le_of_ble_eq_true hfits))
    have hor := or_toNat_of_below low hlow (b := inBit b low) (by rw [hword]; cases b <;> simp [flagAt])
    have hbound : (acc ||| inBit b low).toNat < 2 ^ (low + 1) := by
      have hpow := Nat.pow_succ 2 low
      rw [hor, hword]
      cases b <;> simp only [flagAt, Bool.false_eq_true, if_true, if_false] <;> omega
    rw [List.foldl_cons, ih _ hbound, hor, hword, Nat.add_assoc]

/-- A word of fields that do not overlap spells the sum of what its fields spell. -/
theorem pack_toNat {fields : List Word} {value : Nat} (hlaid : Laid 0 fields value) : (pack fields).toNat = value := by
  simpa [pack] using foldl_or_toNat_of_laid hlaid 0 (by decide)

theorem State.readWord_references {a : BitVec 6} (hlow : 0x15 ≤ a.toNat) (hhigh : a.toNat ≤ 0x1B) :
    s.readWord a = wordOf (s.time.refs.head?.map RefEntry.words) (a.toNat - 0x15) := by
  unfold State.readWord
  rw [if_neg (by omega), if_pos ⟨hlow, hhigh⟩]

theorem State.readWord_openRecord {a : BitVec 6} (hlow : 0x1C ≤ a.toNat) (hhigh : a.toNat ≤ 0x24) :
    s.readWord a = wordOf (s.openRecord.map RxRecord.words) (a.toNat - 0x1C) := by
  unfold State.readWord
  rw [if_neg (by omega), if_neg (by omega), if_pos ⟨hlow, hhigh⟩]

theorem State.readWord_reports {a : BitVec 6} (hlow : 0x2B ≤ a.toNat) (hhigh : a.toNat ≤ 0x30) :
    s.readWord a = wordOf (s.reports.list.head?.map Report.words) (a.toNat - 0x2B) := by
  unfold State.readWord
  rw [if_neg (by omega), if_neg (by omega), if_neg (by omega), if_pos ⟨hlow, hhigh⟩]

/-- An item that is absent reads 0. -/
theorem wordOf_none (n : Nat) : wordOf none n = 0 := by simp [wordOf]

/-! ### The pops, and the words of the oldest entry and report -/

/-- The words of a reference entry (12, Reference Entry Words). -/
theorem RefEntry.words_spell (e : RefEntry) :
    (wordOf (some e.words) 0).toNat = e.channel.val + 256 * e.stamp.epoch.toNat ∧
    wordOf (some e.words) 1 ++ wordOf (some e.words) 2 = e.stamp.time.coarse ∧
    wordOf (some e.words) 3 = e.stamp.time.fine.setWidth 16 ∧
    wordOf (some e.words) 4 ++ wordOf (some e.words) 5 = e.remoteCoarse ∧ wordOf (some e.words) 6 = e.remoteFine := by
  refine ⟨(pack_toNat (by repeat constructor)).trans ?_, upperWord_append_lowerWord _, rfl,
    upperWord_append_lowerWord _, rfl⟩
  have hchannel := e.channel.isLt
  have hepoch := e.stamp.epoch.isLt
  omega

/-- The words of a report; an absent item reads 0 (12, Report Words; R154). -/
theorem Report.words_spell (r : Report) :
    wordOf (some r.words) 0 = r.tag ∧
    (wordOf (some r.words) 1).toNat = r.queue.val + 4 * r.channel.val + 256 * r.result.code +
      2048 * (r.attempts % 16) + flagAt r.sequenceUsed.isSome 15 ∧
    (wordOf (some r.words) 2).toNat = (match r.sequenceUsed with | some n => n.toNat | none => 0) +
      (match r.startStamp with | some st => 128 + 256 * st.epoch.toNat | none => 0) ∧
    wordOf (some r.words) 3 ++ wordOf (some r.words) 4 = (r.startStamp.map fun st => st.time.coarse).getD 0 ∧
    wordOf (some r.words) 5 = (match r.startStamp with | some st => st.time.fine.setWidth 16 | none => 0) := by
  refine ⟨rfl, (pack_toNat (by repeat constructor)).trans ?_, (pack_toNat (by repeat constructor)).trans ?_,
    (upperWord_append_lowerWord _).trans ?_, ?_⟩
  · have hqueue := r.queue.isLt
    have hchannel := r.channel.isLt
    have hresult : r.result.code < 8 := by cases r.result <;> decide
    omega
  · cases hused : r.sequenceUsed <;> cases hstamp : r.startStamp <;> simp [flagAt] <;> omega
  · cases r.startStamp <;> rfl
  · cases hstamp : r.startStamp <;> simp [wordOf, Report.words, hstamp, LinkTime.zero]

/-- Settles O13: the two pops by whether the list is empty, then the words of its head. -/
theorem popsRemoveTheOldest : Obligations.PopsRemoveTheOldest := by
  refine ⟨fun s htakes => ⟨fun hempty => ?_, fun e rest hrefs => ?_, fun hempty => ?_, fun r rest hreports => ?_⟩,
    fun s => ⟨fun hempty a hlow hhigh => ?_, fun e rest hrefs => ?_, ?_, fun hempty a hlow hhigh => ?_,
      fun r rest hreports => ?_, ?_⟩⟩
  · exact congrArg _ (shortCommand_answer htakes (by simp [refPop, hempty]))
  · exact congrArg _ (shortCommand_done htakes (by simp only [refPop, State.acceptCommand_time, hrefs]; rfl))
  · exact congrArg _ (shortCommand_answer htakes (by simp [reportPop, hempty]))
  · exact congrArg _ (shortCommand_done htakes (by simp only [reportPop, State.acceptCommand_reports, hreports]; rfl))
  · rw [State.readWord_references hlow hhigh, hempty, List.head?_nil, Option.map_none, wordOf_none]
  · have hword (n : Nat) : wordOf (s.time.refs.head?.map RefEntry.words) n = wordOf (some e.words) n := by
      rw [hrefs]; rfl
    obtain ⟨hfirst, htime, hfine, hremote, hremoteFine⟩ := e.words_spell
    exact ⟨(congrArg _ (hword 0)).trans hfirst, (congrArg₂ _ (hword 1) (hword 2)).trans htime, (hword 3).trans hfine,
      (congrArg₂ _ (hword 4) (hword 5)).trans hremote, (hword 6).trans hremoteFine⟩
  · refine (pack_toNat (by repeat constructor) : s.refStatusWord.toNat = _).trans ?_
    have hcount := s.time.refOverwrites.isLt
    omega
  · rw [State.readWord_reports hlow hhigh, hempty, List.head?_nil, Option.map_none, wordOf_none]
  · have hword (n : Nat) : wordOf (s.reports.list.head?.map Report.words) n = wordOf (some r.words) n := by
      rw [hreports]; rfl
    obtain ⟨htag, hsecond, hthird, htime, hfine⟩ := r.words_spell
    refine ⟨(hword 0).trans htag, (congrArg _ (hword 1)).trans (hsecond.trans ?_), (congrArg _ (hword 2)).trans hthird,
      (congrArg₂ _ (hword 3) (hword 4)).trans htime, (hword 5).trans hfine⟩
    cases r.result <;> rfl
  · exact (inField_toNat _ 6 0 (by decide)).trans (by omega)

end Sys2Proof.Machine
end


section
/-! Proofs about the read window, the data port and staging as the host sees them (06; 07, Writing the Payload). -/

namespace Sys2Proof.Machine

variable {s : State}

/-! ### The read window -/

@[simp] theorem State.acceptCommand_rxQueue (code : Word) (q : RxQueueId) :
    (s.acceptCommand code).rxQueue q = s.rxQueue q := rfl

/-- The head record of a queue leaves it (R26). -/
theorem State.removeHeadRecord_of_cons {q : RxQueueId} {rec : RxRecord} {rest : List RxRecord}
    (hrecords : (s.rxQueue q).records = rec :: rest) :
    s.removeHeadRecord q = (s.setRxQueue q { s.rxQueue q with records := rest }).returnHolder rec.cells := by
  simp only [State.removeHeadRecord, hrecords]

theorem State.openRecord_of_open {w : OpenRecord} {rec : RxRecord} {rest : List RxRecord}
    (hopen : s.window.record = some w) (hrecords : (s.rxQueue w.queue).records = rec :: rest) :
    s.openRecord = some rec := by
  simp [State.openRecord, hopen, hrecords]

theorem State.openRecord_of_closed (hclosed : s.window.record = none) : s.openRecord = none := by
  simp [State.openRecord, hclosed]

/-- The words of a record (12, Receive Descriptor Words). -/
theorem RxRecord.words_spell (rec : RxRecord) :
    (wordOf (some rec.words) 0).toNat = rec.queue.val + 16 * rec.header.channel.val +
      1024 * rec.header.kind.bits.toNat ∧
    (wordOf (some rec.words) 1).toNat = rec.header.length.toNat + 256 * (rec.payload.length % 256) ∧
    (wordOf (some rec.words) 2).toNat = flagAt rec.flags.lineError 0 + flagAt rec.flags.checkFail 1 +
      flagAt rec.flags.truncated 2 + flagAt rec.flags.earlyStart 3 + flagAt rec.flags.overlong 4 +
      flagAt rec.flags.duplicate 5 + flagAt rec.header.marker 7 +
      (match rec.gap with | some g => 64 + 256 * g.toNat | none => 0) + 4096 * rec.header.sequence.toNat ∧
    wordOf (some rec.words) 4 ++ wordOf (some rec.words) 5 = rec.stamp.time.coarse := by
  refine ⟨(pack_toNat (by repeat constructor)).trans ?_, (pack_toNat (by repeat constructor)).trans ?_,
    (pack_toNat (by repeat constructor)).trans ?_, upperWord_append_lowerWord _⟩
  · have hqueue := rec.queue.isLt
    have hchannel := rec.header.channel.isLt
    have hkind := rec.header.kind.bits.isLt
    omega
  · have hlength := rec.header.length.isLt
    simp only [RxRecord.storedLength]
    omega
  · have hsequence := rec.header.sequence.isLt
    cases hgap : rec.gap with
    | none =>
      simp only [Option.isSome_none, Option.getD_none, flagAt, Bool.false_eq_true, if_false, BitVec.ofNat_eq_ofNat,
        BitVec.toNat_ofNat]
      omega
    | some g =>
      have hg := g.isLt
      simp only [Option.isSome_some, Option.getD_some, flagAt, if_true]
      omega

theorem Kind.bits_toNat (k : Kind) :
    k.bits.toNat = match k with | .data => 0 | .time => 1 | .control => 2 := by cases k <;> rfl

/-- Settles O38: the three commands by the state of the window, then the words that read it. -/
theorem openReleaseAndClose : Obligations.OpenReleaseAndClose := by
  refine ⟨fun s htakes => ⟨fun q hqueue => ⟨fun hopen => ?_, fun hclosed hempty => ?_, fun hclosed hrecords => ?_⟩,
    fun hclosed => ⟨?_, ?_⟩, fun w hopen => ⟨fun rec rest hrecords => ?_, ?_⟩⟩,
    fun s => ⟨fun hclosed a hlow hhigh => ?_, fun w rec rest hopen hrecords => ?_, ?_⟩⟩
  · refine congrArg _ (shortCommand_answer htakes ?_)
    have hsome : s.window.record.isSome = true := Option.isSome_iff_ne_none.mpr hopen
    simp [rxOpen, rxQueueArg_eq_some.mpr hqueue, hsome]
  · refine congrArg _ (shortCommand_answer htakes ?_)
    simp [rxOpen, rxQueueArg_eq_some.mpr hqueue, hclosed, hempty]
  · refine congrArg _ (shortCommand_done htakes ?_)
    simp only [rxOpen, rxQueueArg_eq_some.mpr hqueue, State.acceptCommand_window, hclosed, Option.isSome_none,
      State.acceptCommand_rxQueue, List.isEmpty_iff, if_neg hrecords]
    rfl
  · exact congrArg _ (shortCommand_answer htakes (by simp only [rxRelease, State.acceptCommand_window, hclosed]))
  · exact congrArg _ (shortCommand_answer htakes (by simp only [rxClose, State.acceptCommand_window, hclosed]))
  · refine congrArg _ (shortCommand_done htakes ?_)
    have hhead := State.removeHeadRecord_of_cons (s := s.acceptCommand 0x39) hrecords
    simp only [rxRelease, State.acceptCommand_window, hopen, hhead]
    rfl
  · exact congrArg _ (shortCommand_done htakes (by simp only [rxClose, State.acceptCommand_window, hopen]; rfl))
  · rw [State.readWord_openRecord hlow hhigh, State.openRecord_of_closed hclosed, Option.map_none, wordOf_none]
  · have hword (n : Nat) : wordOf (s.openRecord.map RxRecord.words) n = wordOf (some rec.words) n := by
      rw [State.openRecord_of_open hopen hrecords, Option.map_some]
    obtain ⟨hfirst, hsecond, hflags, htime⟩ := rec.words_spell
    rw [Kind.bits_toNat] at hfirst
    refine ⟨(congrArg _ (hword 0)).trans (hfirst.trans ?_), (congrArg _ (hword 1)).trans hsecond,
      (congrArg _ (hword 2)).trans hflags, hword 3, (congrArg₂ _ (hword 4) (hword 5)).trans htime, hword 6, hword 7,
      hword 8⟩
    cases rec.header.kind <;> rfl
  · refine (pack_toNat (by repeat constructor) : s.winStatusWord.toNat = _).trans ?_
    cases hopen : s.window.record with
    | none =>
      cases hdir : s.window.direction <;> simp [flagAt]
      omega
    | some w =>
      have hqueue := w.queue.isLt
      cases hdir : s.window.direction <;> simp [flagAt] <;> omega

/-! ### The data port -/

theorem exec_dataPortRead (hreset : s.inReset = false) (via : PortAccess) :
    exec (.dataPortRead via) s = .next s.dataPortRead :=
  congrArg _ (State.unlessReset_of_released _ hreset)

theorem exec_dataPortWrite (hreset : s.inReset = false) (via : PortAccess) (v : Word) :
    exec (.dataPortWrite via v) s = .next (s.dataPortWrite v) :=
  congrArg _ (State.unlessReset_of_released _ hreset)

section

variable {w : OpenRecord} {rec : RxRecord} {rest : List RxRecord}

/-- A read below the stored length (R102). -/
theorem State.dataPortRead_of_below (hopen : s.window.record = some w)
    (hrecords : (s.rxQueue w.queue).records = rec :: rest) (hbelow : w.offset < rec.payload.length) :
    s.dataPortRead = { s with
      window := { s.window with record := some { w with offset := min (w.offset + 2) rec.payload.length } }
      host := { s.host with lastRead := some (payloadWord rec.payload w.offset) } } := by
  simp only [State.dataPortRead, hopen, State.openRecord_of_open hopen hrecords, Option.map_some, Option.getD_some,
    if_pos hbelow]
  rfl

/-- A read at the end (R103). -/
theorem State.dataPortRead_of_end (hopen : s.window.record = some w)
    (hrecords : (s.rxQueue w.queue).records = rec :: rest) (hend : rec.payload.length ≤ w.offset) :
    s.dataPortRead = { s with
      window := { s.window with readPastEnd := true }, host := { s.host with lastRead := some 0 } } := by
  simp only [State.dataPortRead, hopen, State.openRecord_of_open hopen hrecords, Option.map_some, Option.getD_some,
    if_neg (Nat.not_lt.mpr hend)]
  rfl

end

theorem payloadWord_of_drop {bytes : List Byte} {offset : Nat} {b0 : Byte} {tail : List Byte}
    (hdrop : bytes.drop offset = b0 :: tail) : payloadWord bytes offset = tail.getD 0 0 ++ b0 := by
  have hget (k : Nat) : bytes.getD (offset + k) 0 = (b0 :: tail).getD k 0 := by
    rw [← hdrop, List.getD_eq_getElem?_getD, List.getD_eq_getElem?_getD, List.getElem?_drop]
  unfold payloadWord
  rw [hget 1, show bytes.getD offset 0 = b0 from hget 0]
  rfl

/-- What is left after the offset, in numbers. -/
theorem length_of_drop {bytes : List Byte} {offset : Nat} {b0 : Byte} {tail : List Byte}
    (hdrop : bytes.drop offset = b0 :: tail) : bytes.length = offset + 1 + tail.length := by
  have hlength := congrArg List.length hdrop
  rw [List.length_drop, List.length_cons] at hlength
  omega

section

variable {r : StagingRecord}

theorem State.dataPortWrite_of_below (hopen : s.staging.record = some r) (hbelow : r.payload.length < r.length.toNat)
    (v : Word) :
    s.dataPortWrite v = { s with staging := { s.staging with
      record := some { r with payload := r.payload ++ writtenBytes (r.length.toNat - r.payload.length) v } } } := by
  simp only [State.dataPortWrite, hopen, if_pos hbelow]

theorem State.dataPortWrite_of_end (hopen : s.staging.record = some r) (hend : r.length.toNat ≤ r.payload.length)
    (v : Word) : s.dataPortWrite v = { s with staging := { s.staging with writePastEnd := true } } := by
  simp only [State.dataPortWrite, hopen, if_neg (Nat.not_lt.mpr hend)]

/-- Two bytes or more are left: both bytes of the word are written (R114). -/
theorem writtenBytes_of_two {left : Nat} (hleft : 2 ≤ left) (v : Word) :
    writtenBytes left v = [v.extractLsb' 0 8, v.extractLsb' 8 8] :=
  List.take_of_length_le hleft

end

theorem State.rxRequest_iff :
    s.rxRequest = true ↔ ∃ w rec, s.window.record = some w ∧
      (s.rxQueue w.queue).records.head? = some rec ∧ w.offset < rec.payload.length := by
  cases hopen : s.window.record with
  | none => simp [State.rxRequest, hopen]
  | some w =>
    cases hhead : (s.rxQueue w.queue).records.head? with
    | none => simp [State.rxRequest, State.openRecord, hopen, hhead]
    | some rec =>
      simp [State.rxRequest, State.openRecord, hopen, hhead, RxRecord.storedLength]
      exact decide_eq_true_iff

theorem State.txRequest_iff :
    s.txRequest = true ↔ ∃ r, s.staging.record = some r ∧ r.payload.length < r.length.toNat := by
  cases hopen : s.staging.record <;> simp [State.txRequest, hopen]

theorem State.hdreqAsserted_iff (hreset : s.inReset = false) :
    s.hdreqAsserted = true ↔
      (s.window.direction = .rx ∧ s.rxRequest = true) ∨ (s.window.direction = .tx ∧ s.txRequest = true) := by
  cases hdirection : s.window.direction <;> simp [State.hdreqAsserted, hreset, hdirection]

/-- Settles O39: reads and writes by what is left, then HDREQ and the words of staging. -/
theorem dataPortReadsAndWrites : Obligations.DataPortReadsAndWrites := by
  refine ⟨fun s via hreset => ⟨fun hclosed => ?_, fun w rec rest hopen hrecords =>
    ⟨fun b0 b1 tail hdrop => ?_, fun b0 hdrop => ?_, fun hend => ?_⟩, fun hclosed v => ?_,
    fun r v hopen => ⟨fun htwo => ?_, fun hone => ?_, fun hend => ?_⟩, ?_⟩, fun s => ⟨?_, ?_⟩⟩
  · rw [exec_dataPortRead hreset, State.dataPortRead, hclosed]
    rfl
  · have hlength := length_of_drop hdrop
    rw [List.length_cons] at hlength
    rw [exec_dataPortRead hreset, State.dataPortRead_of_below hopen hrecords (by omega), payloadWord_of_drop hdrop,
      Nat.min_eq_left (by omega)]
    rfl
  · have hlength := length_of_drop hdrop
    rw [List.length_nil] at hlength
    rw [exec_dataPortRead hreset, State.dataPortRead_of_below hopen hrecords (by omega), payloadWord_of_drop hdrop,
      Nat.min_eq_right (by omega), hlength]
    rfl
  · rw [exec_dataPortRead hreset, State.dataPortRead_of_end hopen hrecords hend]
  · rw [exec_dataPortWrite hreset, State.dataPortWrite, hclosed]
  · rw [exec_dataPortWrite hreset, State.dataPortWrite_of_below hopen (by omega), writtenBytes_of_two (by omega)]
  · rw [exec_dataPortWrite hreset, State.dataPortWrite_of_below hopen (by omega),
      show r.length.toNat - r.payload.length = 1 by omega]
    rfl
  · rw [exec_dataPortWrite hreset, State.dataPortWrite_of_end hopen hend]
  · rw [State.hdreqAsserted_iff hreset, State.rxRequest_iff, State.txRequest_iff]
  · refine (pack_toNat (by repeat constructor) : s.stgStatusWord.toNat = _).trans ?_
    cases hopen : s.staging.record with
    | none => simp [flagAt]
    | some r =>
      have hqueue := r.queue.isLt
      simp [flagAt]
      omega
  · change s.stgLenWord.toNat = _
    unfold State.stgLenWord
    cases hopen : s.staging.record with
    | none => rfl
    | some r =>
      have hlength := r.length.isLt
      refine (pack_toNat (by repeat constructor)).trans ?_
      dsimp only
      omega

end Sys2Proof.Machine
end


section
/-! Proofs about the writes of the host port, HINT_N, and what the status words and the AUX items read (11; 12). -/

namespace Sys2Proof.Machine

variable {s : State}

/-! ### Flags cleared by ones (R173) -/

theorem clearOnes_getLsbD {w : Nat} (flags : BitVec w) (v : Word) {i : Nat} (hi : i < w) :
    (clearOnes flags v).getLsbD i = (flags.getLsbD i && !v.getLsbD i) := by
  simp [clearOnes, hi]

/-! ### Words that fit -/

theorem setWidth_toNat_of_le {n : Nat} (x : BitVec n) (hn : n ≤ 16) : (x.setWidth 16).toNat = x.toNat :=
  BitVec.toNat_setWidth_of_le hn

/-- A selector reads back the low bits of what was written (R176). -/
theorem ofNat_mod_eq_and (v : Word) (k : Nat) (hk : k ≤ 16) :
    BitVec.ofNat 16 (v.toNat % 2 ^ k) = v &&& BitVec.ofNat 16 (2 ^ k - 1) := by
  have hv := v.isLt
  have hpow : 2 ^ k ≤ 65536 := Nat.pow_le_pow_right (by decide) hk
  have hpos := Nat.two_pow_pos k
  apply BitVec.eq_of_toNat_eq
  rw [BitVec.toNat_and, BitVec.toNat_ofNat, BitVec.toNat_ofNat, Nat.mod_eq_of_lt (b := 2 ^ 16) (by omega),
    Nat.mod_eq_of_lt (b := 2 ^ 16) (by omega), Nat.and_two_pow_sub_one_eq_mod]

/-! ### Register writes -/

theorem exec_registerWrite_of_plain {addr : BitVec 6} (hplain : hasOwnRow addr = false) (v : Word)
    (hreset : s.inReset = false) : exec (.registerWrite addr v) s = .next (s.storeWord addr v) := by
  change execRegisterWrite addr v s = _
  simp only [hasOwnRow, decide_eq_false_iff_not, List.mem_cons, not_or] at hplain
  obtain ⟨h0, h1, h2, h3, h4, h5, h6, h7, h8, -⟩ := hplain
  rw [execRegisterWrite, if_neg h0, if_neg h1, if_neg h2, if_neg h3, if_neg h4, if_neg h5, if_neg h6, if_neg h7,
    if_neg h8, State.unlessReset_of_released _ hreset]

theorem Operands.get_put {n : Nat} (o : Operands) (hn : n < 8) (v : Word) : (o.put n v).get n = v := by
  interval_cases n <;> rfl

theorem hasOwnRow_of_operand {addr : BitVec 6} (hlow : 1 ≤ addr.toNat) (hhigh : addr.toNat ≤ 8) :
    hasOwnRow addr = false := by
  simp only [hasOwnRow, decide_eq_false_iff_not, List.mem_cons, not_or, ← BitVec.toNat_inj]
  refine ⟨?_, ?_, ?_, ?_, ?_, ?_, ?_, ?_, ?_, by simp⟩ <;> simp <;> omega

theorem State.storeWord_of_operand {addr : BitVec 6} (hlow : 1 ≤ addr.toNat) (hhigh : addr.toNat ≤ 8) (v : Word) :
    s.storeWord addr v = { s with cmd := { s.cmd with operands := s.cmd.operands.put (addr.toNat - 1) v } } :=
  if_pos ⟨hlow, hhigh⟩

theorem State.readWord_operand {addr : BitVec 6} (hlow : 1 ≤ addr.toNat) (hhigh : addr.toNat ≤ 8) :
    s.readWord addr = s.cmd.operands.get (addr.toNat - 1) :=
  if_pos ⟨hlow, hhigh⟩

/-- A word that is neither an operand word nor a selector ignores a write (R173). -/
theorem State.storeWord_of_readOnly {addr : BitVec 6} (hhigh : 8 < addr.toNat) (hq : addr ≠ 0x34) (ht : addr ≠ 0x3A)
    (haux : addr ≠ 0x3E) (v : Word) : s.storeWord addr v = s := by
  have hne {k : BitVec 6} (h : addr ≠ k) : addr.toNat ≠ k.toNat := mt BitVec.eq_of_toNat_eq h
  have hq' : addr.toNat ≠ 0x34 := hne hq
  have ht' : addr.toNat ≠ 0x3A := hne ht
  have haux' : addr.toNat ≠ 0x3E := hne haux
  rw [State.storeWord, if_neg (by omega), if_neg hq', if_neg ht', if_neg haux']

/-- The writes of the register window (R89, R103, R115, R160, R166, R168, R173, R176). -/
theorem State.writes_of_released (s : State) (v : Word) (hreset : s.inReset = false) :
    (∃ x : BitVec 12, exec (.evtStatusWrite v) s = .next { s with irq := { s.irq with status := x } } ∧
      ∀ i, i < 12 → x.getLsbD i = (s.irq.status.getLsbD i && !v.getLsbD i)) ∧
    exec (.evtEnableWrite v) s = .next { s with irq := { s.irq with enable := v.setWidth 12 } } ∧
    (∃ x : BitVec 6, exec (.qEventsWrite v) s = .next
        (s.setRxQueue s.host.qsel { s.rxQueue s.host.qsel with events := x }) ∧
      ∀ i, i < 6 → x.getLsbD i = ((s.rxQueue s.host.qsel).events.getLsbD i && !v.getLsbD i)) :=
  ⟨⟨_, congrArg _ (State.unlessReset_of_released _ hreset), fun _ => clearOnes_getLsbD _ v⟩,
    congrArg _ (State.unlessReset_of_released _ hreset),
    _, congrArg _ (State.unlessReset_of_released _ hreset), fun _ => clearOnes_getLsbD _ v⟩

/-! ### The event status and HINT_N (R166 to R168) -/

theorem RxQueue.hasEvents_iff (r : RxQueue) : r.hasEvents = true ↔ r.events ≠ 0 := by
  simp [RxQueue.hasEvents]

theorem State.rxqAttn_iff : s.rxqAttn = true ↔ ∃ q, (s.rxQueue q).events ≠ 0 := by
  simp only [State.rxqAttn, List.any_eq_true, Vector.mem_toList_iff, Vector.mem_iff_getElem, RxQueue.hasEvents_iff]
  constructor
  · rintro ⟨r, ⟨i, hi, rfl⟩, hevents⟩
    exact ⟨⟨i, hi⟩, hevents⟩
  · rintro ⟨q, hevents⟩
    exact ⟨_, ⟨q.val, q.isLt, rfl⟩, hevents⟩

/-- The bits of the event status as it is read: RXQ_ATTN in position 2, the sticky events elsewhere (R166). -/
theorem State.eventStatus_getLsbD {i : Nat} (hi : i < 12) :
    s.eventStatus.getLsbD i = true ↔
      (i ≠ 2 ∧ s.irq.status.getLsbD i = true) ∨ (i = 2 ∧ ∃ q, (s.rxQueue q).events ≠ 0) := by
  have hmask : rxqAttnMask.getLsbD i = decide (i = 2) := by
    interval_cases i <;> decide
  have hlevel : (if s.rxqAttn then rxqAttnMask else 0).getLsbD i = (s.rxqAttn && decide (i = 2)) := by
    cases s.rxqAttn
    · simp
    · simp only [if_true, hmask, Bool.true_and]
  rw [← State.rxqAttn_iff, State.eventStatus, BitVec.getLsbD_or, BitVec.getLsbD_and, BitVec.getLsbD_not, hmask, hlevel]
  simp [hi, and_comm]

theorem ne_zero_iff_exists_getLsbD {w : Nat} {x : BitVec w} : x ≠ 0 ↔ ∃ i, i < w ∧ x.getLsbD i = true := by
  constructor
  · intro hne
    by_contra hall
    exact hne (BitVec.eq_of_getLsbD_eq fun i hi => by
      simpa using fun h => hall ⟨i, hi, h⟩)
  · rintro ⟨i, hi, hbit⟩ rfl
    simp at hbit

/-- HINT_N by the enabled indications that stand (R168, R172). -/
theorem State.hintAsserted_iff :
    s.hintAsserted = true ↔ s.inReset = false ∧
      ((∃ i, i < 12 ∧ i ≠ 2 ∧ s.irq.status.getLsbD i = true ∧ s.irq.enable.getLsbD i = true) ∨
        (s.irq.enable.getLsbD 2 = true ∧ ∃ q, (s.rxQueue q).events ≠ 0)) := by
  rw [State.hintAsserted, Bool.and_eq_true, Bool.not_eq_true', bne_iff_ne, ne_zero_iff_exists_getLsbD]
  refine and_congr_right fun _ => ?_
  simp only [BitVec.getLsbD_and, Bool.and_eq_true]
  constructor
  · rintro ⟨i, hi, hstatus, henable⟩
    rcases (State.eventStatus_getLsbD hi).mp hstatus with ⟨hother, hset⟩ | ⟨rfl, hevents⟩
    · exact .inl ⟨i, hi, hother, hset, henable⟩
    · exact .inr ⟨henable, hevents⟩
  · rintro (⟨i, hi, hother, hset, henable⟩ | ⟨henable, hevents⟩)
    · exact ⟨i, hi, (State.eventStatus_getLsbD hi).mpr (.inl ⟨hother, hset⟩), henable⟩
    · exact ⟨2, by decide, (State.eventStatus_getLsbD (by decide)).mpr (.inr ⟨rfl, hevents⟩), henable⟩

end Sys2Proof.Machine
end


section
/-! The status words of the blocks and the AUX items, and the statement about the host port (12, Register Map; AUX
Items). -/

namespace Sys2Proof.Machine

variable {s : State}

/-! ### RXQ_SUMMARY (R167) -/

theorem inBit_getLsbD (b : Bool) {k : Nat} (hk : k < 16) (i : Nat) :
    (inBit b k).getLsbD i = (b && decide (k = i)) := by
  cases b
  · simp [inBit]
  · have hword : inBit true k = BitVec.ofNat 16 (2 ^ k) :=
      BitVec.eq_of_toNat_eq (by
        rw [inBit_toNat true k hk, BitVec.toNat_ofNat, flagAt, if_pos rfl,
          Nat.mod_eq_of_lt (Nat.pow_lt_pow_right (by decide) hk)])
    rw [hword, BitVec.getLsbD_ofNat, Nat.testBit_two_pow, Bool.true_and]
    by_cases hki : k = i
    · simp [← hki, hk]
    · simp [hki]

/-- A bit of fields put together is set when one of them has it. -/
theorem foldl_or_getLsbD (fields : List Word) (i : Nat) :
    ∀ acc : Word, (fields.foldl (· ||| ·) acc).getLsbD i = (acc.getLsbD i || fields.any (·.getLsbD i)) := by
  induction fields with
  | nil => simp
  | cons f fs ih => intro acc; rw [List.foldl_cons, ih, BitVec.getLsbD_or, List.any_cons, Bool.or_assoc]

theorem pack_getLsbD (fields : List Word) (i : Nat) : (pack fields).getLsbD i = fields.any (·.getLsbD i) := by
  simp [pack, foldl_or_getLsbD]

theorem State.rxqSummary_getLsbD (q : RxQueueId) :
    s.rxqSummary.getLsbD q.val = true ↔ (s.rxQueue q).events ≠ 0 := by
  rw [State.rxqSummary, pack_getLsbD, List.any_map, List.any_eq_true, ← RxQueue.hasEvents_iff]
  constructor
  · rintro ⟨u, -, hbit⟩
    rw [Function.comp_apply, inBit_getLsbD _ u.isLt, Bool.and_eq_true, decide_eq_true_eq] at hbit
    exact Fin.ext hbit.2 ▸ hbit.1
  · intro hevents
    exact ⟨q, List.mem_finRange q, by rw [Function.comp_apply, inBit_getLsbD _ q.isLt, hevents]; simp⟩

/-! ### Words that belong to no queue -/

/-- RESULT reads the number of its code (12, Result Codes). -/
theorem resultWord_eq (r : Result) :
    BitVec.ofNat 16 r.code = match r with
      | .ok => 0 | .unknown => 1 | .badArg => 2 | .wrongState => 3 | .noSpace => 4 | .queueFull => 5 | .order => 6
      | .incomplete => 7 | .notFound => 8 | .inFlight => 9 | .windowBusy => 10 | .noWindow => 11 | .noRecord => 12
      | .timeBusy => 13 | .empty => 14 := by
  cases r <;> rfl

theorem toInt_ofInt_of_range {x : Int} (hlow : -32768 ≤ x) (hhigh : x ≤ 32767) : (BitVec.ofInt 16 x).toInt = x := by
  rw [BitVec.toInt_ofInt, Int.bmod_eq_of_le] <;> omega

theorem State.cmdStatusWord_toNat :
    s.cmdStatusWord.toNat = flagAt s.cmd.running.isSome 0 + flagAt s.cmd.refused 1 + flagAt s.cmd.last.isSome 2 := by
  refine (pack_toNat (by repeat constructor) : s.cmdStatusWord.toNat = _).trans ?_
  simp only [State.busy, Nat.add_zero, Nat.add_assoc]

theorem State.tbStatusWord_toNat :
    s.tbStatusWord.toNat =
      s.time.divisor.toNat + flagAt s.time.pendingDivisor.isSome 14 + flagAt s.time.pendingSet.isSome 15 := by
  refine (pack_toNat (by repeat constructor) : s.tbStatusWord.toNat = _).trans ?_
  have hdivisor := s.time.divisor.isLt
  omega

/-- The event status as the host reads it (R166, R167). -/
theorem State.eventWord_getLsbD (i : Nat) :
    (s.eventStatus.setWidth 16).getLsbD i = true ↔
      (i < 12 ∧ i ≠ 2 ∧ s.irq.status.getLsbD i = true) ∨ (i = 2 ∧ ∃ q, (s.rxQueue q).events ≠ 0) := by
  by_cases hi : i < 12
  · rw [BitVec.getLsbD_setWidth, show decide (i < 16) = true from decide_eq_true (by omega), Bool.true_and,
      State.eventStatus_getLsbD hi]
    simp [hi]
  · rw [BitVec.getLsbD_setWidth, BitVec.getLsbD_of_ge _ _ (Nat.not_lt.mp hi), Bool.and_false]
    simp only [Bool.false_eq_true, false_iff, not_or, not_and]
    exact ⟨fun h => absurd h hi, fun h => by omega⟩

theorem State.poolHeldWord_toNat :
    s.poolHeldWord.toNat = (match s.fillingCells with | some n => 32768 + n % 8 | none => 0) +
      (match s.staging.record with | some r => 16 * cellsFor r.length.toNat | none => 0) := by
  refine (pack_toNat (by repeat constructor) : s.poolHeldWord.toNat = _).trans ?_
  have hstaged : (s.staging.record.map StagingRecord.cells).getD 0 % 2 ^ 3 * 2 ^ 4 =
      match s.staging.record with | some r => 16 * cellsFor r.length.toNat | none => 0 := by
    cases s.staging.record with
    | none => rfl
    | some r =>
      have hcells : cellsFor r.length.toNat ≤ 4 := cellsFor_le (Nat.le_of_lt_succ r.length.isLt)
      simp only [Option.map_some, Option.getD_some, StagingRecord.cells]
      omega
  rw [hstaged]
  cases s.fillingCells with
  | none => simp [flagAt]
  | some n => simp [flagAt]; omega

/-! ### Q_STATE, T_STATUS and LINE_STATUS -/

/-- Bits 4 to 6 of Q_STATE: the stop cause with its mark (12, Register Map). -/
def RxQueueState.causeField : RxQueueState → Nat
  | .stopped c => 1 + 2 * c.code
  | _ => 0

/-- Bits 7 and 8 of Q_STATE: the remembered state with its mark (12, Register Map). -/
def RxQueueState.beforeField : RxQueueState → Nat
  | .held .run => 1
  | .held .grace => 3
  | _ => 0

theorem RxQueue.stateWord_eq (r : RxQueue) :
    r.stateWord = pack [inField r.state.code 3 0, inBit r.flush 3, inField r.state.causeField 3 4,
      inField r.state.beforeField 2 7, inBit r.batchComplete 9, inBit r.watermarkLevel 10] := by
  cases hstate : r.state with
  | stopped c => cases c <;> simp only [RxQueue.stateWord, hstate] <;> rfl
  | held b => cases b <;> simp only [RxQueue.stateWord, hstate] <;> rfl
  | off => simp only [RxQueue.stateWord, hstate]; rfl
  | pending => simp only [RxQueue.stateWord, hstate]; rfl
  | run => simp only [RxQueue.stateWord, hstate]; rfl
  | grace => simp only [RxQueue.stateWord, hstate]; rfl

theorem RxQueue.stateWord_toNat (r : RxQueue) :
    r.stateWord.toNat =
      (match r.state with
       | .off => 0 | .pending => 1 | .run => 2 | .grace => 3
       | .stopped .batchDone => 20 | .stopped .relayMissed => 52 | .stopped .windowEnd => 84
       | .held .run => 133 | .held .grace => 389) +
      flagAt r.flush 3 + flagAt r.batchComplete 9 + flagAt (decide (r.config.watermark ≤ r.records.length)) 10 := by
  have hlevel : r.watermarkLevel = decide (r.config.watermark ≤ r.records.length) := rfl
  rw [r.stateWord_eq, hlevel, pack_toNat (by repeat constructor)]
  cases r.state with
  | stopped c => cases c <;> simp only [RxQueueState.code, RxQueueState.causeField, RxQueueState.beforeField,
      StopCause.code] <;> omega
  | held b => cases b <;> simp only [RxQueueState.code, RxQueueState.causeField, RxQueueState.beforeField] <;> omega
  | off => simp only [RxQueueState.code, RxQueueState.causeField, RxQueueState.beforeField]; omega
  | pending => simp only [RxQueueState.code, RxQueueState.causeField, RxQueueState.beforeField]; omega
  | run => simp only [RxQueueState.code, RxQueueState.causeField, RxQueueState.beforeField]; omega
  | grace => simp only [RxQueueState.code, RxQueueState.causeField, RxQueueState.beforeField]; omega

theorem State.txStatusWord_toNat (s : State) (t : TxQueueId) :
    (s.txStatusWord t).toNat = flagAt (s.txQueue t).paused 0 + flagAt (s.txQueue t).flush 1 +
      (match s.txf.state with
       | .idle => 0
       | .waitingLine u _ _ => if u = t then 4 else 0
       | .sending a => if a.queue = t then 12 else 0) +
      (match (s.txQueue t).entries with | [] => 0 | _ :: _ => 16) := by
  refine (pack_toNat (by repeat constructor) : (s.txStatusWord t).toNat = _).trans ?_
  have hentries : flagAt (!(s.txQueue t).entries.isEmpty) 4 =
      match (s.txQueue t).entries with | [] => 0 | _ :: _ => 16 := by
    cases (s.txQueue t).entries <;> rfl
  rw [hentries]
  cases hstate : s.txf.state with
  | idle => simp [State.headSending, hstate, TxFramerState.inFlightQueue, flagAt, Nat.add_assoc]
  | waitingLine u armed setBack =>
    by_cases hqueue : u = t <;>
      simp [State.headSending, hstate, TxFramerState.inFlightQueue, flagAt, hqueue] <;> omega
  | sending a =>
    by_cases hqueue : a.queue = t <;>
      simp [State.headSending, hstate, TxFramerState.inFlightQueue, flagAt, hqueue] <;> omega

theorem State.txCountsWord_toNat (s : State) (t : TxQueueId) :
    (s.txCountsWord t).toNat = (s.txQueue t).entries.length % 128 + 128 * ((s.txQueue t).cellCount % 512) := by
  refine (pack_toNat (by repeat constructor) : (s.txCountsWord t).toNat = _).trans ?_
  omega

/-- The attempts of the head of a queue as LINE_STATUS shows them (R146). -/
theorem State.headAttempts_mod (t : TxQueueId) :
    (((s.txQueue t).entries.head?).map (·.attempts)).getD 0 % 16 =
      match (s.txQueue t).entries with | [] => 0 | e :: _ => e.attempts % 16 := by
  cases (s.txQueue t).entries <;> rfl

theorem State.lineStatusWord_toNat :
    s.lineStatusWord.toNat = flagAt s.rxf.lineRx 0 + flagAt s.txf.lineTx 1 +
      (match s.rxf.state with | .hunt => 0 | .header _ => 4 | .body _ => 8 | .discard => 12) +
      (match s.txf.state with
       | .idle => 0
       | .waitingLine u _ _ =>
         80 + 128 * u.val + 512 * (match (s.txQueue u).entries with | [] => 0 | e :: _ => e.attempts % 16)
       | .sending a => 96 + 128 * a.queue.val +
         512 * (match (s.txQueue a.queue).entries with | [] => 0 | e :: _ => e.attempts % 16)) := by
  refine (pack_toNat (by repeat constructor) : s.lineStatusWord.toNat = _).trans ?_
  have hreceive : s.rxf.state.code % 2 ^ 2 * 2 ^ 2 =
      match s.rxf.state with | .hunt => 0 | .header _ => 4 | .body _ => 8 | .discard => 12 := by
    cases s.rxf.state <;> rfl
  cases hstate : s.txf.state with
  | idle =>
    rw [hreceive]
    simp [TxFramerState.code, State.inFlightAttempts, hstate, TxFramerState.inFlightQueue, flagAt, Nat.add_assoc]
  | waitingLine u armed setBack =>
    have hqueue := u.isLt
    simp only [TxFramerState.code, State.inFlightAttempts, hstate, TxFramerState.inFlightQueue, Option.isSome_some,
      Option.map_some, Option.getD_some]
    rw [hreceive, ← s.headAttempts_mod u]
    have hmark : flagAt true 6 = 64 := rfl
    omega
  | sending a =>
    have hqueue := a.queue.isLt
    simp only [TxFramerState.code, State.inFlightAttempts, hstate, TxFramerState.inFlightQueue, Option.isSome_some,
      Option.map_some, Option.getD_some]
    rw [hreceive, ← s.headAttempts_mod a.queue]
    have hmark : flagAt true 6 = 64 := rfl
    omega

/-! ### The AUX items (R177) -/

/-- The word AUX_DATA with an index of the item's range is the item. -/
theorem State.readWord_aux {n : Nat} (hn : n < 64) :
    ({ s with host := { s.host with auxSel := BitVec.ofNat 6 n } } : State).readWord 0x3F = s.auxItem n := by
  have hindex : (BitVec.ofNat 6 n).toNat = n := by rw [BitVec.toNat_ofNat]; omega
  change State.auxItem _ (BitVec.ofNat 6 n).toNat = _
  rw [hindex]
  rfl

theorem State.auxItem_capture (s : State) :
    (s.auxItem 11).toNat =
      (match (s.rxQueue s.host.qsel).config.mode with | .continuous => 0 | .singleBatch => 1 | .relayBatch => 2) +
      (match (s.rxQueue s.host.qsel).config.overrun with | .drop => 0 | .hold => 4) +
      (match (s.rxQueue s.host.qsel).window.start with | .now => 0 | .atTime _ => 16 | .atMarker => 32) +
      flagAt (s.rxQueue s.host.qsel).window.stop.isSome 6 := by
  refine (pack_toNat (by repeat constructor) : (s.auxItem 11).toNat = _).trans ?_
  have hmode : (s.rxQueue s.host.qsel).config.mode.code % 2 ^ 2 * 2 ^ 0 =
      match (s.rxQueue s.host.qsel).config.mode with | .continuous => 0 | .singleBatch => 1 | .relayBatch => 2 := by
    cases (s.rxQueue s.host.qsel).config.mode <;> rfl
  have hoverrun : flagAt ((s.rxQueue s.host.qsel).config.overrun == .hold) 2 =
      match (s.rxQueue s.host.qsel).config.overrun with | .drop => 0 | .hold => 4 := by
    cases (s.rxQueue s.host.qsel).config.overrun <;> rfl
  have hstart : (s.rxQueue s.host.qsel).window.start.code % 2 ^ 2 * 2 ^ 4 =
      match (s.rxQueue s.host.qsel).window.start with | .now => 0 | .atTime _ => 16 | .atMarker => 32 := by
    cases (s.rxQueue s.host.qsel).window.start <;> rfl
  rw [hmode, hoverrun, hstart]
  omega

theorem State.auxItem_transmit (s : State) :
    (s.auxItem 22).toNat =
      (match (s.txQueue s.host.tsel).config.late with | .sendLate => 0 | .dropLate => 1) +
      16 * ((s.txQueue s.host.tsel).config.retryLimit % 8) := by
  refine (pack_toNat (by repeat constructor) : (s.auxItem 22).toNat = _).trans ?_
  have hlate : flagAt ((s.txQueue s.host.tsel).config.late == .dropLate) 0 =
      match (s.txQueue s.host.tsel).config.late with | .sendLate => 0 | .dropLate => 1 := by
    cases (s.txQueue s.host.tsel).config.late <;> rfl
  rw [hlate]
  omega

theorem State.auxItem_none {n : Nat} (hn : 35 ≤ n) : s.auxItem n = 0 := by
  obtain ⟨m, rfl⟩ := Nat.exists_eq_add_of_le' hn
  rfl

/-! ### The statement about the host port -/

theorem State.winCtrlWord_eq :
    inBit (s.window.direction == .tx) 0 = match s.window.direction with | .rx => 0 | .tx => 1 := by
  cases s.window.direction <;> rfl

/-- The item of an AUX index, with the two forms a start time and a stop time can have. -/
theorem State.auxItem_startTime {T : LinkTime} (hstart : (s.rxQueue s.host.qsel).window.start = .atTime T) :
    s.auxItem 14 ++ s.auxItem 15 = T.coarse ∧ s.auxItem 16 = T.fine.setWidth 16 := by
  have htime : (s.rxQueue s.host.qsel).window.startTime = T := by simp [RxWindow.startTime, hstart]
  exact htime ▸ ⟨upperWord_append_lowerWord _, rfl⟩

theorem State.auxItem_startTime_absent (hstart : ∀ T, (s.rxQueue s.host.qsel).window.start ≠ .atTime T) :
    s.auxItem 14 = 0 ∧ s.auxItem 15 = 0 ∧ s.auxItem 16 = 0 := by
  have htime : (s.rxQueue s.host.qsel).window.startTime = LinkTime.zero := by
    unfold RxWindow.startTime
    split
    next T hat => exact absurd hat (hstart T)
    next => rfl
  simp [State.auxItem, htime, LinkTime.zero, upperWord, lowerWord]

theorem State.auxItem_stopTime {S : LinkTime} (hstop : (s.rxQueue s.host.qsel).window.stop = some S) :
    s.auxItem 17 ++ s.auxItem 18 = S.coarse ∧ s.auxItem 19 = S.fine.setWidth 16 := by
  have htime : (s.rxQueue s.host.qsel).window.stop.getD LinkTime.zero = S := by simp [hstop]
  exact htime ▸ ⟨upperWord_append_lowerWord _, rfl⟩

theorem State.auxItem_stopTime_absent (hstop : (s.rxQueue s.host.qsel).window.stop = none) :
    s.auxItem 17 = 0 ∧ s.auxItem 18 = 0 ∧ s.auxItem 19 = 0 := by
  simp [State.auxItem, hstop, LinkTime.zero, upperWord, lowerWord]

/-- A write to a selector, and what it reads back (R176, R177). -/
theorem exec_selectorWrite_qsel (v : Word) (hreset : s.inReset = false) :
    ∃ t, exec (.registerWrite 0x34 v) s = .next t ∧ t.host.qsel.val = v.toNat % 16 ∧
      t = { s with host := { s.host with qsel := t.host.qsel } } ∧ t.readWord 0x34 = v &&& 0x000F := by
  have hexec := exec_registerWrite_of_plain (s := s) (addr := 0x34) rfl v hreset
  exact ⟨{ s with host := { s.host with qsel := ⟨v.toNat % 16, Nat.mod_lt _ (by decide)⟩ } }, hexec, rfl, rfl,
    ofNat_mod_eq_and v 4 (by decide)⟩

theorem exec_selectorWrite_tsel (v : Word) (hreset : s.inReset = false) :
    ∃ t, exec (.registerWrite 0x3A v) s = .next t ∧ t.host.tsel.val = v.toNat % 4 ∧
      t = { s with host := { s.host with tsel := t.host.tsel } } ∧ t.readWord 0x3A = v &&& 0x0003 := by
  have hexec := exec_registerWrite_of_plain (s := s) (addr := 0x3A) rfl v hreset
  exact ⟨{ s with host := { s.host with tsel := ⟨v.toNat % 4, Nat.mod_lt _ (by decide)⟩ } }, hexec, rfl, rfl,
    ofNat_mod_eq_and v 2 (by decide)⟩

theorem exec_selectorWrite_aux (v : Word) (hreset : s.inReset = false) :
    ∃ t, exec (.registerWrite 0x3E v) s = .next t ∧
      t = { s with host := { s.host with auxSel := v.setWidth 6 } } ∧ t.readWord 0x3E = v &&& 0x003F := by
  have hexec := exec_registerWrite_of_plain (s := s) (addr := 0x3E) rfl v hreset
  have hword : (v.setWidth 6).setWidth 16 = v &&& 0x003F := by
    refine Eq.trans ?_ (ofNat_mod_eq_and v 6 (by decide))
    apply BitVec.eq_of_toNat_eq
    rw [setWidth_toNat_of_le _ (by decide), BitVec.toNat_setWidth, BitVec.toNat_ofNat]
    omega
  exact ⟨{ s with host := { s.host with auxSel := v.setWidth 6 } }, hexec, rfl, hword⟩

theorem exec_operandWrite {addr : BitVec 6} (hlow : 1 ≤ addr.toNat) (hhigh : addr.toNat ≤ 8) (v : Word)
    (hreset : s.inReset = false) :
    ∃ t, exec (.registerWrite addr v) s = .next t ∧
      t = { s with cmd := { s.cmd with operands := s.cmd.operands.put (addr.toNat - 1) v } } ∧ t.readWord addr = v := by
  refine ⟨{ s with cmd := { s.cmd with operands := s.cmd.operands.put (addr.toNat - 1) v } }, ?_, rfl, ?_⟩
  · rw [exec_registerWrite_of_plain (hasOwnRow_of_operand hlow hhigh) v hreset,
      State.storeWord_of_operand hlow hhigh]
  · rw [State.readWord_operand hlow hhigh]
    exact Operands.get_put _ (by omega) v

/-- A number that a word takes whole. -/
theorem countWord_toNat {w : Word} {n : Nat} (hword : w = BitVec.ofNat 16 n) : w.toNat = n % 65536 := by
  rw [hword, BitVec.toNat_ofNat]

/-- Settles O40: the writes, HINT_N, the status words and the AUX items, each by the lemma of its word. -/
theorem hostPortWrites : Obligations.HostPortWrites := by
  refine ⟨fun s v hreset => ?_, fun s => State.hintAsserted_iff, fun s => ?_, fun s => ?_, fun s => ?_⟩
  · obtain ⟨hstatus, henable, hevents⟩ := s.writes_of_released v hreset
    refine ⟨hstatus, henable, hevents, congrArg _ (State.unlessReset_of_released _ hreset),
      congrArg _ (State.unlessReset_of_released _ hreset), congrArg _ (State.unlessReset_of_released _ hreset),
      congrArg _ (State.unlessReset_of_released _ hreset), fun addr hlow hhigh => exec_operandWrite hlow hhigh v hreset,
      exec_selectorWrite_qsel v hreset, exec_selectorWrite_tsel v hreset, exec_selectorWrite_aux v hreset,
      fun addr hplain hhigh hq ht haux => ?_, fun addr => ?_⟩
    · rw [exec_registerWrite_of_plain hplain v hreset, State.storeWord_of_readOnly hhigh hq ht haux]
    · rw [State.hostRead, if_neg (by rw [hreset]; decide)]
  · refine ⟨?_, resultWord_eq s.cmd.result, State.cmdStatusWord_toNat (s := s), State.eventWord_getLsbD (s := s), rfl, State.rxqSummary_getLsbD (s := s),
      State.tbStatusWord_toNat (s := s), toInt_ofInt_of_range, State.winCtrlWord_eq (s := s), countWord_toNat rfl,
      countWord_toNat rfl, State.poolHeldWord_toNat (s := s), rfl⟩
    change s.cmd.last.getD 0 = _
    cases s.cmd.last <;> rfl
  · exact ⟨(s.rxQueue s.host.qsel).stateWord_toNat, countWord_toNat rfl, countWord_toNat rfl, rfl,
      s.txStatusWord_toNat s.host.tsel, s.txCountsWord_toNat s.host.tsel, State.lineStatusWord_toNat (s := s)⟩
  · intro r x item
    have haux (n : Nat) (hn : n < 64) : item n = s.auxItem n := State.readWord_aux hn
    have hwhole {m n : Nat} (hm : m < 64) (hn : n < 64) {v : BitVec 32} (hupper : s.auxItem m = upperWord v)
        (hlower : s.auxItem n = lowerWord v) : item m ++ item n = v := by
      rw [haux m hm, haux n hn, hupper, hlower, upperWord_append_lowerWord]
    have hcount {n k : Nat} (hn : n < 64) (hword : s.auxItem n = BitVec.ofNat 16 k) : (item n).toNat = k % 65536 :=
      countWord_toNat ((haux n hn).trans hword)
    refine ⟨hwhole (by decide) (by decide) rfl rfl, hwhole (by decide) (by decide) rfl rfl,
      hwhole (by decide) (by decide) rfl rfl, hwhole (by decide) (by decide) rfl rfl, haux 8 (by decide),
      haux 9 (by decide), hcount (by decide) rfl, ?_, haux 12 (by decide), hcount (by decide) rfl,
      fun T hstart => ?_, fun hstart => ?_, fun S hstop => ?_, fun hstop => ?_, hcount (by decide) rfl,
      haux 21 (by decide), ?_, ?_, hcount (by decide) rfl, hcount (by decide) rfl, hcount (by decide) rfl,
      haux 27 (by decide), haux 28 (by decide), haux 29 (by decide), haux 30 (by decide), haux 31 (by decide), ?_,
      hwhole (by decide) (by decide) rfl rfl, fun n hlow hhigh => ?_⟩
    · rw [haux 11 (by decide)]
      exact s.auxItem_capture
    · rw [haux 14 (by decide), haux 15 (by decide), haux 16 (by decide)]
      exact State.auxItem_startTime hstart
    · rw [haux 14 (by decide), haux 15 (by decide), haux 16 (by decide)]
      exact State.auxItem_startTime_absent hstart
    · rw [haux 17 (by decide), haux 18 (by decide), haux 19 (by decide)]
      exact State.auxItem_stopTime hstop
    · rw [haux 17 (by decide), haux 18 (by decide), haux 19 (by decide)]
      exact State.auxItem_stopTime_absent hstop
    · rw [haux 22 (by decide)]
      exact s.auxItem_transmit
    · rw [haux 23 (by decide)]
      change ((x.entries.head?).map (·.tag)).getD 0 = _
      cases x.entries <;> rfl
    · rw [haux 32 (by decide)]
      change (s.time.pendingDivisor.getD 0).setWidth 16 = _
      cases s.time.pendingDivisor <;> rfl
    · rw [haux n (by omega), State.auxItem_none hlow]

end Sys2Proof.Machine
end


section
/-! Proofs about TX_BEGIN (07, The Staging Record), the header bytes and the body of a received packet (03), and the
packet the transmit framer builds (08, Building the Packet). -/

namespace Sys2Proof.Machine

variable {s : State}

/-! ### TX_BEGIN -/

/-- The table of R19. -/
theorem cellsFor_table (L : Byte) :
    cellsFor L.toNat =
      if L.toNat = 0 then 0 else if L.toNat ≤ 64 then 1 else if L.toNat ≤ 128 then 2 else if L.toNat ≤ 192 then 3
      else 4 := by
  have hL := L.isLt
  simp only [cellsFor, Config.cellBytes]
  split_ifs <;> omega

theorem kindOfBits_bits (k : Kind) : kindOfBits k.bits = some k := by cases k <;> rfl

theorem kindOfBits_eq_none {bits : BitVec 2} (hbits : bits = 3) : kindOfBits bits = none := by
  subst hbits
  rfl

theorem lengthArg_eq_some {w : Word} {L : Byte} (hword : w.toNat = L.toNat) : lengthArg w = some L := by
  have hL := L.isLt
  have hval : w.setWidth 8 = L := BitVec.eq_of_toNat_eq (by rw [BitVec.toNat_setWidth]; omega)
  simp only [lengthArg, hword, hval]
  exact if_pos (by omega)

theorem lengthArg_eq_none {w : Word} (hrange : 255 < w.toNat) : lengthArg w = none := if_neg (by omega)

theorem launchArg_eq_some {o : Operands} (hfine : o.c.getLsbD 6 = true → o.g.toNat ≤ 4095) :
    launchArg o = some (if o.c.getLsbD 6 = true then some ⟨o.e ++ o.f, o.g.setWidth 12⟩ else none) := by
  unfold launchArg
  split
  next hbit => rw [timeArg_of_le (hfine hbit)]; rfl
  next hbit => rfl

theorem launchArg_eq_none {o : Operands} (hbit : o.c.getLsbD 6 = true) (hfine : 4095 < o.g.toNat) :
    launchArg o = none := by
  rw [launchArg, if_pos hbit, timeArg_of_gt hfine]
  rfl

theorem txBeginArgs_eq_none {o : Operands}
    (hrange : 3 < o.a.toNat ∨ 63 < o.b.toNat ∨ o.c.extractLsb' 0 2 = 3 ∨ 255 < o.d.toNat ∨
      (o.c.getLsbD 6 = true ∧ 4095 < o.g.toNat)) : txBeginArgs o = none := by
  simp only [txBeginArgs, Option.bind_eq_bind]
  rcases hrange with hqueue | hchannel | hkind | hlength | ⟨hbit, hfine⟩
  · simp [txQueueArg_eq_none.mpr hqueue]
  · simp [channelArg_eq_none.mpr hchannel]
  · simp [kindOfBits_eq_none hkind]
  · simp [lengthArg_eq_none hlength]
  · simp [launchArg_eq_none hbit hfine]

/-- The staging record the operands ask for (R112). -/
def stagingOf (o : Operands) (t : TxQueueId) (c : ChannelId) (k : Kind) (L : Byte) : StagingRecord :=
  { queue := t, channel := c, kind := k, marker := o.c.getLsbD 4, insertTime := o.c.getLsbD 5, length := L,
    launch := if o.c.getLsbD 6 = true then some ⟨o.e ++ o.f, o.g.setWidth 12⟩ else none, tag := o.h, payload := [] }

theorem txBeginArgs_eq_some {o : Operands} {t : TxQueueId} {c : ChannelId} {k : Kind} {L : Byte}
    (hqueue : o.a.toNat = t.val) (hchannel : o.b.toNat = c.val) (hkind : o.c.extractLsb' 0 2 = k.bits)
    (hlength : o.d.toNat = L.toNat) (hfine : o.c.getLsbD 6 = true → o.g.toNat ≤ 4095) :
    txBeginArgs o = some (stagingOf o t c k L) := by
  simp only [txBeginArgs, txQueueArg_eq_some.mpr hqueue, channelArg_eq_some.mpr hchannel, hkind, kindOfBits_bits,
    lengthArg_eq_some hlength, launchArg_eq_some hfine]
  rfl

theorem badInsert_iff (r : StagingRecord) :
    r.badInsert = true ↔ r.insertTime = true ∧ ¬(r.kind = .time ∧ r.length.toNat = 6) := by
  have hsix : r.length = 6 ↔ r.length.toNat = 6 := (BitVec.toNat_inj (x := r.length) (y := 6)).symm
  simp only [StagingRecord.badInsert, Bool.and_eq_true, Bool.not_eq_true', Bool.and_eq_false_iff, decide_eq_false_iff_not,
    hsix, not_and_or]

theorem txReservationGranted_iff (p : Pool) (n : Nat) :
    txReservationGranted p n = true ↔ 1 ≤ p.freeDescs ∧ n ≤ p.freeCells := by
  simp [txReservationGranted]

/-- A grant, with POOL_LOW as a condition on the event status (R21, R24, R28). -/
theorem State.takeReservation_eq (s : State) (n : Nat) :
    s.takeReservation n =
      { s with
        pool := { s.pool with freeCells := s.pool.freeCells - n, freeDescs := s.pool.freeDescs - 1 }
        irq := { s.irq with
          status := if s.pool.lowThreshold ≤ s.pool.freeCells ∧ s.pool.freeCells - n < s.pool.lowThreshold
            then s.irq.status ||| 0x100 else s.irq.status } } :=
  State.raiseIf_and _ _ _

/-- Settles O16: the checks of TX_BEGIN one after the other, then the reservation. -/
theorem txBeginReservesAndOpensStaging : Obligations.TxBeginReservesAndOpensStaging := by
  refine ⟨cellsFor_table, fun s htakes => ⟨fun hopen => ?_, fun hclosed hrange => ?_,
    fun t c k L hclosed hqueue hchannel hkind hlength hfine => ?_⟩⟩
  · have hsome : s.staging.record.isSome = true := Option.isSome_iff_ne_none.mpr hopen
    exact congrArg _ (shortCommand_answer htakes (if_pos hsome))
  · refine congrArg _ (shortCommand_answer htakes ?_)
    simp [txBegin, hclosed, txBeginArgs_eq_none hrange]
  have hargs : txBeginArgs s.cmd.operands = some (stagingOf s.cmd.operands t c k L) :=
    txBeginArgs_eq_some hqueue hchannel hkind hlength hfine
  have hbad := badInsert_iff (stagingOf s.cmd.operands t c k L)
  have hgranted := txReservationGranted_iff s.pool (stagingOf s.cmd.operands t c k L).cells
  refine ⟨fun hinsert hnot => ?_, fun hinsert => ⟨fun hshort => ?_, fun hdescs hcells => ?_⟩⟩
  · refine congrArg _ (shortCommand_answer htakes ?_)
    simp [txBegin, hclosed, hargs, hbad.mpr ⟨hinsert, hnot⟩]
  · refine congrArg _ (shortCommand_answer htakes ?_)
    have hgood : (stagingOf s.cmd.operands t c k L).badInsert = false :=
      Bool.eq_false_iff.mpr fun h => (hbad.mp h).2 (hinsert (hbad.mp h).1)
    have hrefused : txReservationGranted s.pool (stagingOf s.cmd.operands t c k L).cells = false :=
      Bool.eq_false_iff.mpr fun h => by
        obtain ⟨hd, hc⟩ := hgranted.mp h
        change cellsFor L.toNat ≤ _ at hc
        omega
    simp [txBegin, hclosed, hargs, hgood, hrefused]
  · refine congrArg _ (shortCommand_done htakes ?_)
    have hgood : (stagingOf s.cmd.operands t c k L).badInsert = false :=
      Bool.eq_false_iff.mpr fun h => (hbad.mp h).2 (hinsert (hbad.mp h).1)
    have hpasses : txReservationGranted s.pool (stagingOf s.cmd.operands t c k L).cells = true :=
      hgranted.mpr ⟨hdescs, hcells⟩
    simp only [txBegin, State.acceptCommand_staging, hclosed, Option.isSome_none, Bool.false_eq_true, if_false, hargs,
      hgood, State.acceptCommand_pool, hpasses, if_true, State.takeReservation_eq]
    rfl

/-! ### Header bytes -/

/-- A byte without LRSOP in HEADER (R39, R40). -/
theorem exec_lineByte_header {p : HeaderPacket} (hreset : s.inReset = false) (hrx : s.rxf.lineRx = true)
    (hstate : s.rxf.state = .header p) (data : Byte) (eop err : Bool) :
    exec (.lineByte data false eop err) s = .next (s.headerByte p data eop err) := by
  rw [exec_lineByte_other hreset hrx, State.otherByte, hstate]

theorem State.headerByte_of_good {p : HeaderPacket} {b0 b1 b2 data : Byte} {err : Bool} {h : Header}
    (hbytes : p.bytes = [b0, b1, b2]) (hjudged : judgeHeader b0 b1 b2 data (p.lineError || err) = some h)
    (eop : Bool) : s.headerByte p data eop err = s.goodHeader p h data eop := by
  simp only [State.headerByte, hbytes, hjudged]

theorem State.headerByte_of_bad {p : HeaderPacket} {b0 b1 b2 data : Byte} {err : Bool}
    (hbytes : p.bytes = [b0, b1, b2]) (hjudged : judgeHeader b0 b1 b2 data (p.lineError || err) = none) (eop : Bool) :
    s.headerByte p data eop err = s.headerError (if eop then .hunt else .discard) := by
  simp only [State.headerByte, hbytes, hjudged]

theorem State.headerByte_of_early {p : HeaderPacket} (hbytes : p.bytes.length ≠ 3) (data : Byte) (eop err : Bool) :
    s.headerByte p data eop err =
      if eop then s.headerError .hunt
      else s.setRxFramer (.header { p with bytes := p.bytes ++ [data], lineError := p.lineError || err,
                                           crc := crcByte p.crc data }) := by
  unfold State.headerByte
  dsimp only
  split
  next b0 b1 b2 hthree => exact absurd (congrArg List.length hthree) hbytes
  next => rfl

theorem judgeHeader_eq_none {b0 b1 b2 b3 : Byte} {lineError : Bool}
    (hfaulty : b3 ≠ ~~~(b0 + b1 + b2) ∨ b0.extractLsb' 6 2 = 3 ∨ lineError = true) :
    judgeHeader b0 b1 b2 b3 lineError = none := by
  rcases hfaulty with hcheck | hkind | herror
  · exact if_neg fun h => hcheck h.1
  · simp [judgeHeader, headerOf, kindOfBits_eq_none hkind]
  · exact if_neg fun h => by simp [herror] at h

/-- Settles O20. -/
theorem headerBytesAndHeaderErrors : Obligations.HeaderBytesAndHeaderErrors := by
  intro s p data err hreset hrx hstate faulty
  have hexec (eop : Bool) := exec_lineByte_header hreset hrx hstate data eop err
  refine ⟨fun hlength => ?_, fun b0 b1 b2 hbytes hfaulty => ?_⟩
  · have hearly := State.headerByte_of_early (s := s) (p := p) (by omega) data
    rw [hexec, hexec, hearly, hearly]
    exact ⟨rfl, rfl⟩
  · have hnone := judgeHeader_eq_none hfaulty
    rw [hexec, hexec, State.headerByte_of_bad hbytes hnone, State.headerByte_of_bad hbytes hnone]
    exact ⟨rfl, rfl⟩

/-! ### The body -/

theorem keepsTime_iff (e : ChannelEntry) (h : Header) :
    keepsTime e h = true ↔ e.config.reference = true ∧ h.kind = .time ∧ h.length.toNat = 6 := by
  have hsix : h.length = 6 ↔ h.length.toNat = 6 := (BitVec.toNat_inj (x := h.length) (y := 6)).symm
  simp [keepsTime, ← hsix, and_assoc]

section

variable {p : BodyPacket}

/-- A byte of the body that is payload (R43). -/
theorem BodyPacket.takeByte_of_payload (hcount : p.count < 4 + p.header.length.toNat) (data : Byte) (err : Bool) :
    p.takeByte data err =
      { p with
        count := p.count + 1
        lineError := p.lineError || err
        crc := crcByte p.crc data
        storage := p.storage.map (· ++ [data])
        kept := if keepsTime p.snapshot p.header then p.kept ++ [data] else p.kept } :=
  if_pos (Nat.succ_le_of_lt hcount)

/-- A byte of the trailer (R43). -/
theorem BodyPacket.takeByte_of_trailer (hlow : 4 + p.header.length.toNat ≤ p.count)
    (hhigh : p.count < 6 + p.header.length.toNat) (data : Byte) (err : Bool) :
    p.takeByte data err =
      { p with count := p.count + 1, lineError := p.lineError || err, trailer := p.trailer ++ [data] } :=
  (if_neg (by omega)).trans (if_pos (Nat.succ_le_of_lt hhigh))

/-- A byte beyond the packet's declared end (R43). -/
theorem BodyPacket.takeByte_of_excess (hcount : 6 + p.header.length.toNat ≤ p.count) (data : Byte) (err : Bool) :
    p.takeByte data err = { p with count := p.count + 1, lineError := p.lineError || err } :=
  (if_neg (by omega)).trans (if_neg (by simp only [expectedTotal]; omega))

end

theorem exec_lineByte_body {p : BodyPacket} (hreset : s.inReset = false) (hrx : s.rxf.lineRx = true)
    (hstate : s.rxf.state = .body p) (data : Byte) (eop err : Bool) :
    exec (.lineByte data false eop err) s = .next
      (if eop then s.endPacket (p.takeByte data err) false else s.setRxFramer (.body (p.takeByte data err))) := by
  rw [exec_lineByte_other hreset hrx, State.otherByte, hstate]

/-- Settles O23: the three ranges of the position. -/
theorem bodyByteByPosition : Obligations.BodyByteByPosition := by
  intro s p data err hreset hrx hstate L noted x hpayload htrailer hexcess
  have htaken : p.takeByte data err = x := by
    rcases Nat.lt_or_ge p.count (4 + L) with hbelow | habove
    · rw [BodyPacket.takeByte_of_payload hbelow, hpayload hbelow]
      simp only [keepsTime_iff]
      rfl
    rcases Nat.lt_or_ge p.count (6 + L) with hbelow | hbeyond
    · rw [BodyPacket.takeByte_of_trailer habove hbelow, htrailer habove hbelow]
    · rw [BodyPacket.takeByte_of_excess hbeyond, hexcess hbeyond]
  refine ⟨htaken, ?_, ?_⟩
  · rw [exec_lineByte_body hreset hrx hstate, htaken]
    rfl
  · rw [exec_lineByte_body hreset hrx hstate, htaken]
    rfl

/-! ### The outcome of a packet -/

theorem trailerValue_eq_some {trailer : List Byte} {crc : Word} :
    trailerValue trailer = some crc ↔ ∃ hi lo, trailer = [hi, lo] ∧ hi ++ lo = crc := by
  unfold trailerValue
  split
  next hi lo => simp
  next hother =>
    simp only [reduceCtorEq, false_iff, not_exists, not_and]
    exact fun hi lo htwo => absurd htwo (hother hi lo)

/-- The trailer check fails unless both bytes were received and equal the CRC register (R44). -/
theorem trailerFails_iff (trailer : List Byte) (crc : Word) :
    decide (trailerValue trailer ≠ some crc) = false ↔ ∃ hi lo, trailer = [hi, lo] ∧ hi ++ lo = crc := by
  rw [decide_eq_false_iff_not, not_not, trailerValue_eq_some]

/-- Settles O24: an early start settles before it begins a packet, and the outcome by the byte count. -/
theorem outcomeByByteCount : Obligations.OutcomeByByteCount := by
  refine ⟨fun s p data eop err hreset hrx hstate => ?_,
    fun s p b0 b1 b2 data err h hreset hrx hstate hbytes hjudged => ?_, fun p => ?_⟩
  · have hsettled : ((s.settleEnd p true).setRxFramer .hunt).rxf.lineRx = true := by simpa using hrx
    rw [exec_lineByte_start hreset hrx, exec_lineByte_start (by simpa using hreset) hsettled,
      State.startByte_of_outside (s := (s.settleEnd p true).setRxFramer .hunt) (.inl rfl), State.startByte, hstate]
    rfl
  · rw [exec_lineByte_header hreset hrx hstate, State.headerByte_of_good hbytes hjudged]
    rfl
  intro total trailerOk
  have hfails := trailerFails_iff p.trailer p.crc
  refine ⟨fun hshort => ?_, fun hwhole => ⟨_, hfails, ?_⟩, fun hlong => ⟨_, hfails, ?_⟩, ?_⟩
  · have hbelow : decide (p.count < expectedTotal p.header.length) = true := decide_eq_true hshort
    have hnotAbove : decide (expectedTotal p.header.length < p.count) = false := decide_eq_false (Nat.lt_asymm hshort)
    simp [BodyPacket.outcome, hbelow, hnotAbove]
  · have hnotBelow : decide (p.count < expectedTotal p.header.length) = false := decide_eq_false hwhole.not_lt
    have hnotAbove : decide (expectedTotal p.header.length < p.count) = false := decide_eq_false hwhole.not_gt
    simp [BodyPacket.outcome, hnotBelow, hnotAbove]
  · have hnotBelow : decide (p.count < expectedTotal p.header.length) = false := decide_eq_false (Nat.lt_asymm hlong)
    have habove : decide (expectedTotal p.header.length < p.count) = true := decide_eq_true hlong
    simp [BodyPacket.outcome, hnotBelow, habove]
  · simp [BodyPacket.outcome]

end Sys2Proof.Machine
end


section
/-! Proofs about the packet the transmit framer builds and the receive framer reads (03, The Link Packet as the Device
Reads It; 08, Building the Packet; 12, Link Header). -/

namespace Sys2Proof.Machine

variable {s : State}

/-! ### Fields of bytes put together and taken apart -/

/-- Two adjacent fields put together are the field over both. -/
theorem append_extractLsb' {w n m k : Nat} (x : BitVec w) :
    x.extractLsb' (k + m) n ++ x.extractLsb' k m = x.extractLsb' k (n + m) := by
  ext i hi
  simp only [BitVec.getElem_append, BitVec.getElem_extractLsb']
  split
  · rfl
  next hge => rw [show k + m + (i - m) = k + i by omega]

theorem bytes_append_word (x : Word) : x.extractLsb' 8 8 ++ x.extractLsb' 0 8 = x := by
  have hboth := append_extractLsb' (n := 8) (m := 8) (k := 0) x
  exact hboth.trans (BitVec.extractLsb'_eq_self)

theorem bytes_append_long (x : BitVec 32) :
    x.extractLsb' 24 8 ++ x.extractLsb' 16 8 ++ x.extractLsb' 8 8 ++ x.extractLsb' 0 8 = x := by
  have hupper := append_extractLsb' (n := 8) (m := 8) (k := 16) x
  have hthree := append_extractLsb' (n := 16) (m := 8) (k := 8) x
  have hall := append_extractLsb' (n := 24) (m := 8) (k := 0) x
  calc x.extractLsb' 24 8 ++ x.extractLsb' 16 8 ++ x.extractLsb' 8 8 ++ x.extractLsb' 0 8
      = x.extractLsb' 16 16 ++ x.extractLsb' 8 8 ++ x.extractLsb' 0 8 := by rw [hupper]
    _ = x.extractLsb' 8 24 ++ x.extractLsb' 0 8 := by rw [hthree]
    _ = x := hall.trans BitVec.extractLsb'_eq_self

theorem append_toNat (a : BitVec 2) (b : BitVec 6) : (a ++ b).toNat = a.toNat * 64 + b.toNat := by
  have hb := b.isLt
  rw [BitVec.toNat_append, ← Nat.shiftLeft_add_eq_or_of_lt hb, Nat.shiftLeft_eq]

theorem kindField_of_append (a : BitVec 2) (b : BitVec 6) : (a ++ b).extractLsb' 6 2 = a := by
  have hb := b.isLt
  have ha := a.isLt
  apply BitVec.eq_of_toNat_eq
  rw [BitVec.extractLsb'_toNat, append_toNat, Nat.shiftRight_eq_div_pow]
  omega

theorem channelOfByte_of_append (a : BitVec 2) (c : ChannelId) : channelOfByte (a ++ BitVec.ofNat 6 c.val) = c := by
  have hc := c.isLt
  apply Fin.ext
  simp only [channelOfByte, append_toNat, BitVec.toNat_ofNat]
  omega

/-! ### The header is read back (R33, R34, R138) -/

theorem markerByte_marker (m : Bool) (n : BitVec 4) :
    (((if m then 0x10 else 0) ||| n.setWidth 8 : Byte)).getLsbD 4 = m := by
  revert m n
  decide

theorem markerByte_sequence (m : Bool) (n : BitVec 4) :
    (((if m then 0x10 else 0) ||| n.setWidth 8 : Byte)).extractLsb' 0 4 = n := by
  revert m n
  decide

theorem markerByte_eq (m : Bool) (n : BitVec 4) :
    ((if m then 0x10 else 0) ||| n.setWidth 8 : Byte) = 0#3 ++ BitVec.ofBool m ++ n := by
  revert m n
  decide

theorem judgeHeader_headerBytes (h : Header) :
    ∃ b0 b1 b2 b3, headerBytes h = [b0, b1, b2, b3] ∧ judgeHeader b0 b1 b2 b3 false = some h := by
  refine ⟨_, _, _, _, rfl, ?_⟩
  rw [judgeHeader, if_pos ⟨rfl, rfl⟩, headerOf, kindField_of_append, kindOfBits_bits, Option.map_some,
    channelOfByte_of_append, markerByte_marker, markerByte_sequence]

/-! ### The CRC register bit by bit (R35) -/

theorem crcByte_eq (crc : Word) (b : Byte) :
    crcByte crc b = [7, 6, 5, 4, 3, 2, 1, 0].foldl
      (fun (c : Word) (i : Nat) => if b.getLsbD i = c.getLsbD 15 then c <<< 1 else (c <<< 1) ^^^ 0x1021) crc := by
  have hbit : (fun (c : Word) (i : Nat) => crcBit c (b.getLsbD i)) =
      fun (c : Word) (i : Nat) => if b.getLsbD i = c.getLsbD 15 then c <<< 1 else (c <<< 1) ^^^ 0x1021 := by
    funext c i
    have hmsb : c.msb = c.getLsbD 15 := rfl
    by_cases hsame : b.getLsbD i = c.getLsbD 15
    · rw [crcBit, if_neg (by simp [hmsb, hsame]), if_pos hsame]
    · rw [crcBit, if_pos (by simpa [hmsb] using hsame), if_neg hsame]
  rw [crcByte, hbit]

/-! ### The bytes of the packet by position (R138 to R140) -/

section

variable {e : TxEntry} {crc : Word}

theorem TxEntry.byteAt_payload {k : Nat} (hk : k < e.length.toNat) :
    e.byteAt (5 + k) crc = e.sentPayload.getD k 0 := by
  rw [TxEntry.byteAt, if_neg (by omega), if_pos (by omega), show 5 + k - 5 = k by omega]

theorem TxEntry.byteAt_trailerHigh : e.byteAt (5 + e.length.toNat) crc = crc.extractLsb' 8 8 := by
  rw [TxEntry.byteAt, if_neg (by omega), if_neg (by omega), if_pos rfl]

theorem TxEntry.byteAt_trailerLow : e.byteAt (6 + e.length.toNat) crc = crc.extractLsb' 0 8 := by
  rw [TxEntry.byteAt, if_neg (by omega), if_neg (by omega), if_neg (by omega)]

theorem TxEntry.sentPayload_plain (hplain : e.insertTime = false) : e.sentPayload = e.payload := by
  rw [TxEntry.sentPayload, hplain]
  rfl

theorem TxEntry.sentPayload_stamp (hinsert : e.insertTime = true) {st : Stamp} (hstamp : e.startStamp = some st) :
    e.sentPayload = timeBytes st := by
  rw [TxEntry.sentPayload, hinsert, hstamp]
  rfl

/-- The six bytes of an insert-time entry spell its start stamp (R139). -/
theorem TxEntry.byteAt_stamp (hinsert : e.insertTime = true) (hlength : e.length = 6) {st : Stamp}
    (hstamp : e.startStamp = some st) :
    e.byteAt 5 crc ++ e.byteAt 6 crc ++ e.byteAt 7 crc ++ e.byteAt 8 crc = st.time.coarse ∧
      e.byteAt 9 crc ++ e.byteAt 10 crc = st.time.fine.setWidth 16 := by
  have hbyte (k : Nat) (hk : k < 6) : e.byteAt (5 + k) crc = (timeBytes st).getD k 0 := by
    rw [TxEntry.byteAt_payload (by rw [hlength]; exact hk), TxEntry.sentPayload_stamp hinsert hstamp]
  have h5 := hbyte 0 (by decide)
  have h6 := hbyte 1 (by decide)
  have h7 := hbyte 2 (by decide)
  have h8 := hbyte 3 (by decide)
  have h9 := hbyte 4 (by decide)
  have h10 := hbyte 5 (by decide)
  norm_num only at h5 h6 h7 h8 h9 h10
  rw [h5, h6, h7, h8, h9, h10]
  exact ⟨bytes_append_long _, bytes_append_word _⟩

end

/-! ### The pins -/

theorem State.transmitPins_of_idle (hreset : s.inReset = false) (hidle : ∀ a, s.txf.state ≠ .sending a) :
    s.transmitPins = { data := 0, sop := false, eop := false, kill := false } := by
  unfold State.transmitPins
  rw [hreset]
  cases hstate : s.txf.state with
  | sending a => exact absurd hstate (hidle a)
  | idle => rfl
  | waitingLine t armed setBack => rfl

theorem State.transmitPins_of_sending (hreset : s.inReset = false) {a : Attempt} {e : TxEntry} {rest : List TxEntry}
    (hstate : s.txf.state = .sending a) (hentries : (s.txQueue a.queue).entries = e :: rest) :
    s.transmitPins =
      { data := e.byteAt a.position a.crc, sop := decide (a.position = 1),
        eop := a.cut || decide (a.position = 6 + e.length.toNat), kill := a.cut } := by
  unfold State.transmitPins
  rw [hreset, hstate]
  dsimp only
  rw [hentries]
  rfl

/-- Settles O22: the header and the trailer read back, the CRC by its bits, and every byte by its position. -/
theorem sentPacketIsReadBack : Obligations.SentPacketIsReadBack := by
  refine ⟨judgeHeader_headerBytes, crcByte_eq, fun e crc => ⟨?_, rfl, ?_, rfl, rfl, fun hplain k b hk hb => ?_,
    fun hinsert hlength st hstamp => TxEntry.byteAt_stamp hinsert hlength hstamp⟩,
    fun s hreset => ⟨State.transmitPins_of_idle hreset,
      fun a e rest hstate hentries => State.transmitPins_of_sending hreset hstate hentries⟩⟩
  · rw [TxEntry.byteAt_trailerHigh, TxEntry.byteAt_trailerLow, trailerValue, bytes_append_word]
  · have hsecond : e.byteAt 2 crc = 0#3 ++ BitVec.ofBool e.marker ++ e.sequenceUsed.getD 0 := markerByte_eq _ _
    rw [hsecond]
    cases e.sequenceUsed <;> rfl
  · rw [TxEntry.byteAt_payload hk, TxEntry.sentPayload_plain hplain, List.getD_eq_getElem?_getD, hb, Option.getD_some]

end Sys2Proof.Machine
end


section
/-! Proofs about the verdict at the header and the meeting of a good header with its queue (04, The Verdict at the
Header; 05, Overrun and Loss). -/

namespace Sys2Proof.Machine

variable {s : State}

/-! ### The sequence check (R58) -/

section

variable {e : ChannelEntry} {p : BitVec 4}

theorem checkSequence_of_on {last : BitVec 4} (hcheck : e.config.sequenceCheck = true)
    (hlast : e.lastSequence = some last) :
    checkSequence e p =
      if p = last then .duplicate else if p = last + 1 then .inSequence else .gap (p - (last + 1)) := by
  simp only [checkSequence, hcheck, hlast]

theorem checkSequence_of_off (hoff : e.config.sequenceCheck = false ∨ e.lastSequence = none) :
    checkSequence e p = .unchecked := by
  unfold checkSequence
  split
  next hcheck hlast =>
    rcases hoff with hoff | hoff
    · rw [hoff] at hcheck; cases hcheck
    · rw [hoff] at hlast; cases hlast
  next => rfl

theorem checkSequence_eq_duplicate_iff :
    checkSequence e p = .duplicate ↔ e.config.sequenceCheck = true ∧ e.lastSequence = some p := by
  constructor
  · intro hduplicate
    unfold checkSequence at hduplicate
    split at hduplicate
    next last hcheck hlast =>
      split_ifs at hduplicate with hsame
      exact ⟨hcheck, hsame ▸ hlast⟩
    next => cases hduplicate
  · rintro ⟨hcheck, hlast⟩
    rw [checkSequence_of_on hcheck hlast, if_pos rfl]

theorem dropsDuplicate_iff :
    dropsDuplicate e p = true ↔
      e.config.sequenceCheck = true ∧ e.lastSequence = some p ∧ e.config.duplicate = .discard := by
  simp [dropsDuplicate, checkSequence_eq_duplicate_iff, and_assoc]

end

/-- The next sequence value, in numbers. -/
theorem eq_next_iff {p last : BitVec 4} : p = last + 1 ↔ p.toNat = (last.toNat + 1) % 16 := by
  rw [← BitVec.toNat_inj, BitVec.toNat_add]
  rfl

/-! ### A good header -/

/-- A fourth header byte that completes a good header (R40, R41). -/
theorem exec_lineByte_goodHeader {p : HeaderPacket} {b0 b1 b2 data : Byte} {err : Bool} {h : Header}
    (hreset : s.inReset = false) (hrx : s.rxf.lineRx = true) (hstate : s.rxf.state = .header p)
    (hbytes : p.bytes = [b0, b1, b2]) (hjudged : judgeHeader b0 b1 b2 data (p.lineError || err) = some h) :
    exec (.lineByte data false false err) s = .next
      ((s.classify h).1.setRxFramer (.body (p.toBody h (s.channel h.channel) (s.classify h).2 data))) := by
  rw [exec_lineByte_header hreset hrx hstate, State.headerByte_of_good hbytes hjudged]
  rfl

theorem State.classify_of_drop {h : Header} (haction : (s.channel h.channel).config.action = .drop) :
    s.classify h = (s.countUnrouted, .unrouted) := by
  simp only [State.classify, haction]

theorem State.classify_of_discarded {h : Header} (haction : (s.channel h.channel).config.action = .queue)
    (hdrops : dropsDuplicate (s.channel h.channel) h.sequence = true) :
    s.classify h = (s.setChannel h.channel
      { s.channel h.channel with duplicatesDropped := satInc (s.channel h.channel).duplicatesDropped },
      .duplicateDropped) := by
  simp only [State.classify, haction, hdrops, if_true]

theorem State.classify_of_queue {h : Header} (haction : (s.channel h.channel).config.action = .queue)
    (hkeeps : dropsDuplicate (s.channel h.channel) h.sequence = false) :
    s.classify h = s.admitTo (s.channel h.channel).config.queue h := by
  simp only [State.classify, haction, hkeeps, Bool.false_eq_true, if_false]

/-- A packet that reached no queue carries neither DUPLICATE nor a gap (R58). -/
theorem HeaderPacket.toBody_of_drop {p : HeaderPacket} {e : ChannelEntry} (haction : e.config.action = .drop)
    {h : Header} {b0 b1 b2 b3 : Byte} (hbytes : p.bytes = [b0, b1, b2]) :
    p.toBody h e .unrouted b3 =
      { stamp := p.stamp, arrival := p.arrival, bytes := [b0, b1, b2, b3], header := h, snapshot := e,
        verdict := .unrouted, duplicate := false, gap := none, count := 4, crc := crcByte p.crc b3, trailer := [],
        lineError := false, storage := none, kept := [] } := by
  simp [HeaderPacket.toBody, carriesDuplicate, carriedGap, haction, hbytes]

theorem HeaderPacket.toBody_of_discarded {p : HeaderPacket} {e : ChannelEntry} {h : Header}
    (hduplicate : checkSequence e h.sequence = .duplicate) (hpolicy : e.config.duplicate = .discard)
    {b0 b1 b2 b3 : Byte} (hbytes : p.bytes = [b0, b1, b2]) :
    p.toBody h e .duplicateDropped b3 =
      { stamp := p.stamp, arrival := p.arrival, bytes := [b0, b1, b2, b3], header := h, snapshot := e,
        verdict := .duplicateDropped, duplicate := false, gap := none, count := 4, crc := crcByte p.crc b3,
        trailer := [], lineError := false, storage := none, kept := [] } := by
  simp [HeaderPacket.toBody, carriesDuplicate, carriedGap, hduplicate, hpolicy, hbytes]

/-- Settles O26: the sequence check by its cases, then the two verdicts that leave the queues alone. -/
theorem sequenceCheckAndHeadersWithoutAQueue : Obligations.SequenceCheckAndHeadersWithoutAQueue := by
  refine ⟨fun e p => ⟨checkSequence_of_off, fun last hcheck hlast => ⟨fun hsame => ?_, fun hnext => ?_,
    fun hother hgap => ?_⟩⟩, fun s p b0 b1 b2 data err h hreset hrx hstate hbytes hjudged => ?_⟩
  · rw [checkSequence_of_on hcheck hlast, if_pos hsame]
  · have hdiffers : p ≠ last := by
      rintro rfl
      have := p.isLt
      omega
    rw [checkSequence_of_on hcheck hlast, if_neg hdiffers, if_pos (eq_next_iff.mpr hnext)]
  · refine ⟨p - (last + 1), ?_, ?_⟩
    · rw [checkSequence_of_on hcheck hlast, if_neg hother, if_neg (mt eq_next_iff.mp hgap)]
    · have hp := p.isLt
      have hl := last.isLt
      have hne : p.toNat ≠ last.toNat := mt BitVec.eq_of_toNat_eq hother
      have hsize : (p - (last + 1)).toNat = (16 - (last.toNat + 1) % 16 + p.toNat) % 16 := by
        rw [BitVec.toNat_sub, BitVec.toNat_add]
        rfl
      omega
  have hexec := exec_lineByte_goodHeader hreset hrx hstate hbytes hjudged
  refine ⟨fun haction => ?_, fun haction hcheck hlast hpolicy => ?_⟩
  · rw [hexec, State.classify_of_drop haction, HeaderPacket.toBody_of_drop haction hbytes]
    rfl
  · have hdrops := dropsDuplicate_iff.mpr ⟨hcheck, hlast, hpolicy⟩
    have hduplicate := checkSequence_eq_duplicate_iff.mpr ⟨hcheck, hlast⟩
    rw [hexec, State.classify_of_discarded haction hdrops, HeaderPacket.toBody_of_discarded hduplicate hpolicy hbytes]

/-! ### A loss (R61, R85) -/

section

variable {r : RxQueue}

/-- What a loss counts. -/
def RxQueue.counted (r : RxQueue) : RxQueue :=
  { r with pendingLoss := if r.pendingLoss = 0xFFFF then 0xFFFF else r.pendingLoss + 1, lost := r.lost + 1
           events := r.events ||| 0x08 }

theorem RxQueue.lose_eq (r : RxQueue) : r.lose = r.counted.holdOnLoss := by
  rw [RxQueue.lose, satInc_word]
  rfl

theorem RxQueue.lose_of_run (hhold : r.config.overrun = .hold) (hstate : r.state = .run) :
    r.lose = { r.counted with state := .held .run, events := r.events ||| 0x18 } := by
  have hholds : r.counted.holdOnLoss = { r.counted with state := .held .run }.raise .hold := by
    simp only [RxQueue.holdOnLoss, RxQueue.counted, hhold, hstate]
  rw [RxQueue.lose_eq, hholds]
  simp only [RxQueue.raise, RxQueue.counted, BitVec.or_assoc]
  rfl

theorem RxQueue.lose_of_grace (hhold : r.config.overrun = .hold) (hstate : r.state = .grace) :
    r.lose = { r.counted with state := .held .grace, events := r.events ||| 0x18 } := by
  have hholds : r.counted.holdOnLoss = { r.counted with state := .held .grace }.raise .hold := by
    simp only [RxQueue.holdOnLoss, RxQueue.counted, hhold, hstate]
  rw [RxQueue.lose_eq, hholds]
  simp only [RxQueue.raise, RxQueue.counted, BitVec.or_assoc]
  rfl

theorem RxQueue.lose_of_other (hkeeps : r.config.overrun = .drop ∨ (r.state ≠ .run ∧ r.state ≠ .grace)) :
    r.lose = r.counted := by
  rw [RxQueue.lose_eq, RxQueue.holdOnLoss]
  split
  next hhold hrun =>
    rcases hkeeps with hdrop | ⟨hnotRun, -⟩
    · rw [show r.config.overrun = .hold from hhold] at hdrop; cases hdrop
    · exact absurd hrun hnotRun
  next hhold hgrace =>
    rcases hkeeps with hdrop | ⟨-, hnotGrace⟩
    · rw [show r.config.overrun = .hold from hhold] at hdrop; cases hdrop
    · exact absurd hgrace hnotGrace
  next => rfl

end

/-! ### The queue's answer (R60, R61) -/

section

variable {q : RxQueueId} {h : Header}

/-- Writing a queue twice leaves what was written last. -/
theorem State.setRxQueue_setRxQueue (q : RxQueueId) (r x : RxQueue) :
    (s.setRxQueue q r).setRxQueue q x = s.setRxQueue q x := by
  simp [State.setRxQueue]

theorem State.reserveFor_of_granted
    (hgranted : rxReservationRefusal s.pool (s.rxQueue q).cellCount (s.rxQueue q).config.quota
      (cellsFor h.length.toNat) = none) :
    s.reserveFor q h = (s.takeReservation (cellsFor h.length.toNat), .admitted) := by
  simp only [State.reserveFor, hgranted]

theorem State.reserveFor_of_refused
    (hrefused : ¬rxReservationRefusal s.pool (s.rxQueue q).cellCount (s.rxQueue q).config.quota
      (cellsFor h.length.toNat) = none) :
    s.reserveFor q h = (s.setRxQueue q (s.rxQueue q).lose, .loss) := by
  obtain ⟨reason, hreason⟩ := Option.ne_none_iff_exists'.mp hrefused
  simp only [State.reserveFor, hreason]

theorem State.admitTo_of_refusing
    (hrefuses : (s.rxQueue q).flush = true ∨ (s.rxQueue q).state = .off ∨ (∃ c, (s.rxQueue q).state = .stopped c) ∨
      ((s.rxQueue q).state = .pending ∧ ¬((s.rxQueue q).window.start = .atMarker ∧ h.marker = true))) :
    s.admitTo q h = (s.setRxQueue q (s.rxQueue q).refuse, .refused) := by
  cases hflush : (s.rxQueue q).flush with
  | true => simp only [State.admitTo, hflush, if_true]
  | false =>
    rw [hflush] at hrefuses
    simp only [Bool.false_eq_true, false_or] at hrefuses
    rcases hrefuses with hoff | ⟨c, hstopped⟩ | ⟨hpending, hwaits⟩
    · simp only [State.admitTo, hflush, hoff, Bool.false_eq_true, if_false]
    · simp only [State.admitTo, hflush, hstopped, Bool.false_eq_true, if_false]
    · simp only [State.admitTo, hflush, hpending, Bool.false_eq_true, if_false, if_neg hwaits]

theorem State.admitTo_of_held (hflush : (s.rxQueue q).flush = false) {b : Capturing}
    (hheld : (s.rxQueue q).state = .held b) : s.admitTo q h = (s.setRxQueue q (s.rxQueue q).lose, .loss) := by
  simp only [State.admitTo, hflush, hheld, Bool.false_eq_true, if_false]

theorem State.admitTo_of_capturing (hflush : (s.rxQueue q).flush = false)
    (hstate : (s.rxQueue q).state = .run ∨ (s.rxQueue q).state = .grace) : s.admitTo q h = s.reserveFor q h := by
  rcases hstate with hrun | hgrace
  · simp only [State.admitTo, hflush, hrun, Bool.false_eq_true, if_false]
  · simp only [State.admitTo, hflush, hgrace, Bool.false_eq_true, if_false]

theorem State.admitTo_of_marker (hflush : (s.rxQueue q).flush = false) (hpending : (s.rxQueue q).state = .pending)
    (hstart : (s.rxQueue q).window.start = .atMarker) (hmarker : h.marker = true) :
    s.admitTo q h = (s.setRxQueue q (s.rxQueue q).startRunning).reserveFor q h := by
  simp only [State.admitTo, hflush, hpending, Bool.false_eq_true, if_false, if_pos (And.intro hstart hmarker)]

end

/-- The packet of a header that reached its queue: DUPLICATE under KEEP, the gap, and storage if it was granted
(R41, R56, R58). -/
theorem HeaderPacket.toBody_of_queue {p : HeaderPacket} {e : ChannelEntry} {h : Header}
    (haction : e.config.action = .queue)
    (hkeeps : ¬(e.config.sequenceCheck = true ∧ e.lastSequence = some h.sequence ∧ e.config.duplicate = .discard))
    {b0 b1 b2 : Byte} (hbytes : p.bytes = [b0, b1, b2]) (v : Verdict) (b3 : Byte) :
    p.toBody h e v b3 =
      { stamp := p.stamp, arrival := p.arrival, bytes := [b0, b1, b2, b3], header := h, snapshot := e, verdict := v,
        duplicate := e.config.sequenceCheck && decide (e.lastSequence = some h.sequence),
        gap := (match checkSequence e h.sequence with | .gap g => some g | _ => none),
        count := 4, crc := crcByte p.crc b3, trailer := [], lineError := false,
        storage := if v = .admitted then some [] else none, kept := [] } := by
  have hduplicate : carriesDuplicate e h.sequence =
      (e.config.sequenceCheck && decide (e.lastSequence = some h.sequence)) := by
    rw [Bool.eq_iff_iff]
    simp only [carriesDuplicate, haction, checkSequence_eq_duplicate_iff, decide_true, Bool.true_and, Bool.and_eq_true,
      decide_eq_true_eq]
    refine ⟨fun hkept => hkept.1, fun hsame => ⟨hsame, ?_⟩⟩
    cases hpolicy : e.config.duplicate with
    | keep => rfl
    | discard => exact absurd ⟨hsame.1, hsame.2, hpolicy⟩ hkeeps
  have hgap : carriedGap e h.sequence = (match checkSequence e h.sequence with | .gap g => some g | _ => none) := by
    cases hsequence : checkSequence e h.sequence <;> simp [carriedGap, haction, hsequence]
  simp only [HeaderPacket.toBody, hduplicate, hgap, hbytes]
  rfl

/-- Settles O27: what a loss does to a queue, then the header by the state of its queue and the answer of the pool. -/
theorem goodHeaderMeetsItsQueue : Obligations.GoodHeaderMeetsItsQueue := by
  refine ⟨fun r => ⟨RxQueue.lose_of_run, RxQueue.lose_of_grace, RxQueue.lose_of_other⟩, ?_⟩
  intro s p b0 b1 b2 data err h q hreset hrx hstate hbytes hjudged e haction hkeeps hqueue r
  have hkept : dropsDuplicate e h.sequence = false := Bool.eq_false_iff.mpr (mt dropsDuplicate_iff.mp hkeeps)
  have hexec {x : State} {v : Verdict} (hadmit : s.admitTo q h = (x, v)) :
      exec (.lineByte data false false err) s = .next (x.setRxFramer (.body (p.toBody h e v data))) := by
    have hclassify : s.classify h = (x, v) := by
      rw [State.classify_of_queue haction hkept, ← hadmit, ← hqueue]
    rw [exec_lineByte_goodHeader hreset hrx hstate hbytes hjudged, hclassify]
  simp only [HeaderPacket.toBody_of_queue haction hkeeps hbytes] at hexec
  refine ⟨fun hrefuses => hexec (State.admitTo_of_refusing hrefuses),
    fun hflush ⟨b, hheld⟩ => hexec (State.admitTo_of_held hflush hheld),
    fun hflush hcaptures => ⟨fun hgranted => ?_, fun hrefused => ?_⟩,
    fun hflush hpending hstart hmarker => ⟨fun hgranted => ?_, fun hrefused => ?_⟩⟩
  · refine hexec ((State.admitTo_of_capturing hflush hcaptures).trans ?_)
    rw [State.reserveFor_of_granted hgranted, State.takeReservation_eq]
  · exact hexec ((State.admitTo_of_capturing hflush hcaptures).trans (State.reserveFor_of_refused hrefused))
  · have hstarted : (s.setRxQueue q r.startRunning).rxQueue q = r.startRunning := by simp
    refine hexec ((State.admitTo_of_marker hflush hpending hstart hmarker).trans ?_)
    rw [State.reserveFor_of_granted (by rw [hstarted]; exact hgranted), State.takeReservation_eq]
    rfl
  · have hstarted : (s.setRxQueue q r.startRunning).rxQueue q = r.startRunning := by simp
    refine hexec ((State.admitTo_of_marker hflush hpending hstart hmarker).trans ?_)
    rw [State.reserveFor_of_refused (by rw [hstarted]; exact hrefused), hstarted, State.setRxQueue_setRxQueue]
    rfl

end Sys2Proof.Machine
end


section
/-! Proofs about the end of a packet (04, Settling the End; 05, Batch Accounting) and about RX_FLUSH (05, Flushing). -/

namespace Sys2Proof.Machine

variable {s : State}

/-! ### A commit (R63, R79 to R81, R88) -/

section

variable {r : RxQueue} {rec : RxRecord}

/-- The queue with the record at its tail, before the batch accounting (R63, R88). -/
def RxQueue.joined (r : RxQueue) (rec : RxRecord) : RxQueue :=
  { r with
    records := r.records ++ [{ rec with lossBefore := r.pendingLoss }], pendingLoss := 0, admitted := r.admitted + 1
    events := r.events ||| if r.records.length + 1 = r.config.watermark then 0x02 else 0 }

theorem RxQueue.commit_eq (r : RxQueue) (rec : RxRecord) : r.commit rec = (r.joined rec).accountBatch := by
  have hcount (x : RxRecord) : (r.records ++ [x]).length = r.records.length + 1 := by simp
  by_cases hmark : r.records.length + 1 = r.config.watermark
  · simp [RxQueue.commit, RxQueue.joined, RxQueue.raiseIf, RxQueue.recordCount, hmark]
    rfl
  · simp [RxQueue.commit, RxQueue.joined, RxQueue.raiseIf, RxQueue.recordCount, hmark]

theorem RxQueue.accountBatch_of_counting (hcounts : r.state = .run ∨ r.state = .grace) :
    r.accountBatch = r.countBatch := by
  rcases hcounts with hrun | hgrace
  · simp only [RxQueue.accountBatch, hrun]
  · simp only [RxQueue.accountBatch, hgrace]

theorem RxQueue.accountBatch_of_idle (hidle : ¬(r.state = .run ∨ r.state = .grace)) : r.accountBatch = r := by
  obtain ⟨hrun, hgrace⟩ := not_or.mp hidle
  unfold RxQueue.accountBatch
  split
  next hstate => exact absurd hstate hrun
  next hstate => exact absurd hstate hgrace
  next => rfl

theorem RxQueue.countBatch_of_going_on
    (hgoes : r.config.mode = .continuous ∨ r.batchCount + 1 ≠ r.config.batchSize) :
    r.countBatch = { r with batchCount := r.batchCount + 1 } := by
  cases hmode : r.config.mode with
  | continuous => simp only [RxQueue.countBatch, hmode]
  | singleBatch =>
    have hshort := hgoes.resolve_left (by rw [hmode]; decide)
    simp only [RxQueue.countBatch, hmode, if_neg hshort]
  | relayBatch =>
    have hshort := hgoes.resolve_left (by rw [hmode]; decide)
    simp only [RxQueue.countBatch, hmode, if_neg hshort]

theorem RxQueue.countBatch_of_single (hmode : r.config.mode = .singleBatch)
    (hfull : r.batchCount + 1 = r.config.batchSize) :
    r.countBatch = (({ r with batchCount := r.batchCount + 1, batchComplete := true } : RxQueue).raise
      .batchDone).stopWith .batchDone := by
  simp only [RxQueue.countBatch, hmode, if_pos hfull]

theorem RxQueue.countBatch_of_relay (hmode : r.config.mode = .relayBatch)
    (hfull : r.batchCount + 1 = r.config.batchSize) (hclear : r.batchComplete = false) :
    r.countBatch =
      ({ r with batchCount := 0, batchComplete := true, state := .grace } : RxQueue).raise .batchDone := by
  simp only [RxQueue.countBatch, hmode, if_pos hfull, hclear, Bool.false_eq_true, if_false]

theorem RxQueue.countBatch_of_missed (hmode : r.config.mode = .relayBatch)
    (hfull : r.batchCount + 1 = r.config.batchSize) (hset : r.batchComplete = true) :
    r.countBatch = ({ r with batchCount := r.batchCount + 1 } : RxQueue).stopWith .relayMissed := by
  simp only [RxQueue.countBatch, hmode, if_pos hfull, hset, if_true]

end

/-- Settles O29: the record joins, and then the batch accounting goes by the state and the mode. -/
theorem batchAccountingOfACommit : Obligations.BatchAccountingOfACommit := by
  intro r rec x mark counts
  have hx : x = (r.joined rec).accountBatch := r.commit_eq rec
  refine ⟨fun hidle => ?_, fun hcounts hgoes => ?_, fun hcounts hmode hfull => ?_,
    fun hcounts hmode hfull hclear => ?_, fun hcounts hmode hfull hset => ?_⟩
  · rw [hx, RxQueue.accountBatch_of_idle (r := r.joined rec) hidle]
    exact ⟨rfl, rfl, rfl, rfl⟩
  · rw [hx, RxQueue.accountBatch_of_counting (r := r.joined rec) hcounts,
      RxQueue.countBatch_of_going_on (r := r.joined rec) hgoes]
    exact ⟨rfl, rfl, rfl, rfl⟩
  · rw [hx, RxQueue.accountBatch_of_counting (r := r.joined rec) hcounts,
      RxQueue.countBatch_of_single (r := r.joined rec) hmode hfull]
    exact ⟨rfl, hfull, rfl, BitVec.or_assoc _ _ _⟩
  · rw [hx, RxQueue.accountBatch_of_counting (r := r.joined rec) hcounts,
      RxQueue.countBatch_of_relay (r := r.joined rec) hmode hfull hclear]
    exact ⟨rfl, rfl, rfl, rfl⟩
  · rw [hx, RxQueue.accountBatch_of_counting (r := r.joined rec) hcounts,
      RxQueue.countBatch_of_missed (r := r.joined rec) hmode hfull hset]
    exact ⟨rfl, hfull, hset, rfl⟩

/-! ### The end of a packet -/

theorem exec_lineByte_end {p : BodyPacket} (hreset : s.inReset = false) (hrx : s.rxf.lineRx = true)
    (hstate : s.rxf.state = .body p) (data : Byte) (err : Bool) :
    exec (.lineByte data false true err) s = .next ((s.settleEnd (p.takeByte data err) false).setRxFramer .hunt) := by
  rw [exec_lineByte_body hreset hrx hstate]
  rfl

section

variable {p : BodyPacket} {f : RecordFlags} {stored : List Byte}

/-- A policy of the snapshot discards the packet (R62). -/
def BodyPacket.Rejects (p : BodyPacket) (f : RecordFlags) : Prop :=
  (f.checkFail = true ∧ p.snapshot.config.check = .discard) ∨
    ((f.lineError = true ∨ f.truncated = true ∨ f.overlong = true) ∧ p.snapshot.config.errored = .discard)

theorem BodyPacket.rejects_iff :
    ((f.checkFail && decide (p.snapshot.config.check = .discard)) ||
      (f.errored && decide (p.snapshot.config.errored = .discard))) = true ↔ p.Rejects f := by
  simp [BodyPacket.Rejects, RecordFlags.errored, or_assoc]

theorem State.settleStorage_of_rejected (hrejects : p.Rejects f) :
    s.settleStorage p f stored =
      (s.setRxQueue p.snapshot.config.queue (s.rxQueue p.snapshot.config.queue).reject).returnHolder
        p.reservedCells :=
  if_pos (BodyPacket.rejects_iff.mpr hrejects)

theorem State.settleStorage_of_refused (hkeeps : ¬p.Rejects f)
    (hrefuses : (s.rxQueue p.snapshot.config.queue).state = .off ∨
      (s.rxQueue p.snapshot.config.queue).flush = true) :
    s.settleStorage p f stored =
      (s.setRxQueue p.snapshot.config.queue (s.rxQueue p.snapshot.config.queue).refuse).returnHolder
        p.reservedCells := by
  have hcondition : (decide ((s.rxQueue p.snapshot.config.queue).state = .off) ||
      (s.rxQueue p.snapshot.config.queue).flush) = true := by simpa using hrefuses
  exact (if_neg (mt BodyPacket.rejects_iff.mp hkeeps)).trans (if_pos hcondition)

theorem State.settleStorage_of_committed (hkeeps : ¬p.Rejects f)
    (hon : (s.rxQueue p.snapshot.config.queue).state ≠ .off) (hflush : (s.rxQueue p.snapshot.config.queue).flush = false) :
    s.settleStorage p f stored = s.commitRecord p.snapshot.config.queue p (p.record f stored) := by
  have hcondition : ¬(decide ((s.rxQueue p.snapshot.config.queue).state = .off) ||
      (s.rxQueue p.snapshot.config.queue).flush) = true := by simp [hon, hflush]
  exact (if_neg (mt BodyPacket.rejects_iff.mp hkeeps)).trans (if_neg hcondition)

end

/-- Settles O28: the ends of a stored packet by the first case that applies. -/
theorem endOfAStoredPacket : Obligations.EndOfAStoredPacket := by
  refine ⟨fun s p data err hreset hrx hstate => exec_lineByte_end hreset hrx hstate data err,
    fun s p early stored hstored => ?_⟩
  intro q r f reserved kept settled rejects
  have hend (t : State) (ht : s.settleStorage p f stored = t) : s.settleEnd p early = settled t := by
    rw [State.settleEnd_of_storage hstored]
    exact congrArg settled ht
  refine ⟨fun hrejects => hend _ (State.settleStorage_of_rejected hrejects),
    fun hkeeps hrefuses => hend _ (State.settleStorage_of_refused hkeeps hrefuses),
    fun hkeeps hon hflush hfits => ?_, fun hkeeps hon hflush hexceeds => hend _ ?_⟩
  · intro rec' x
    obtain ⟨hrecords, hconfig, hwindow, hflag, hloss, hadmitted, hlost, hrefused, hrejected⟩ := r.commit_frame rec'
    refine ⟨hend _ ?_, rfl, hrecords, hloss, hadmitted, hlost, hrefused, hrejected, hconfig, hwindow, hflag⟩
    rw [State.settleStorage_of_committed hkeeps hon hflush]
    exact if_pos hfits
  · rw [State.settleStorage_of_committed hkeeps hon hflush]
    exact if_neg (Nat.not_le.mpr hexceeds)

/-! ### The last sequence and the reference list (R13, R14, R65, R66) -/

section

variable {p : BodyPacket} {f : RecordFlags}

theorem BodyPacket.updatesSequence_iff :
    p.updatesSequence f = true ↔
      p.snapshot.config.sequenceCheck = true ∧ f.checkFail = false ∧ p.verdict ≠ .duplicateDropped := by
  simp [BodyPacket.updatesSequence, and_assoc]

/-- The packet gives a reference candidate if its six bytes were kept (R13, R66). -/
def BodyPacket.Qualifies (p : BodyPacket) (f : RecordFlags) : Prop :=
  p.snapshot.config.reference = true ∧ p.header.kind = .time ∧ p.header.length.toNat = 6 ∧
    f.checkFail = false ∧ f.lineError = false ∧ f.truncated = false ∧ f.overlong = false

theorem BodyPacket.qualifies_iff :
    (keepsTime p.snapshot p.header && !f.checkFail && !f.errored) = true ↔ p.Qualifies f := by
  simp [BodyPacket.Qualifies, RecordFlags.errored, keepsTime_iff, and_assoc]

theorem State.settleReference_of_other (hother : ¬p.Qualifies f) : s.settleReference p f = s := by
  have hnone : p.candidate f = none := if_neg (mt BodyPacket.qualifies_iff.mp hother)
  rw [State.settleReference, hnone]

theorem State.settleReference_of_candidate (hqualifies : p.Qualifies f) {c3 c2 c1 c0 f1 f0 : Byte}
    (hkept : p.kept = [c3, c2, c1, c0, f1, f0]) :
    s.settleReference p f = s.appendReference
      { channel := p.header.channel, stamp := p.stamp, remoteCoarse := c3 ++ c2 ++ c1 ++ c0,
        remoteFine := f1 ++ f0 } := by
  have hsome : p.candidate f = referenceOf p.header.channel p.stamp p.kept :=
    if_pos (BodyPacket.qualifies_iff.mpr hqualifies)
  rw [State.settleReference, hsome, hkept]
  rfl

end

theorem State.appendReference_of_room (e : RefEntry) (hroom : s.time.refs.length < 8) :
    s.appendReference e =
      { s with time := { s.time with refs := s.time.refs ++ [e] }
               irq := { s.irq with status := s.irq.status ||| 0x008 } } :=
  if_pos hroom

theorem State.appendReference_of_full (e : RefEntry) (hfull : 8 ≤ s.time.refs.length) :
    s.appendReference e =
      { s with time := { s.time with
                 refs := s.time.refs.tail ++ [e]
                 refOverwrites := if s.time.refOverwrites = 255 then 255 else s.time.refOverwrites + 1 }
               irq := { s.irq with status := s.irq.status ||| 0x018 } } := by
  have hcounter : satInc s.time.refOverwrites =
      if s.time.refOverwrites = 255 then 255 else s.time.refOverwrites + 1 := by
    rw [satInc, show BitVec.allOnes 8 = 255 from rfl]
    split
    next hmax => exact hmax
    next => rfl
  have hevents : s.irq.status ||| Event.refOverwrite.mask ||| Event.refNew.mask = s.irq.status ||| 0x018 :=
    BitVec.or_assoc _ _ _
  have hplaces : ¬s.time.refs.length < Config.referencePlaces := Nat.not_lt.mpr hfull
  rw [State.appendReference, if_neg hplaces, hcounter, ← hevents]
  rfl

/-- Settles O30. -/
theorem endOfAPacketWithoutStorage : Obligations.EndOfAPacketWithoutStorage := by
  refine ⟨fun s p data err hreset hrx hstate hstorage => ?_,
    fun s p early hstorage => State.settleEnd_of_no_storage hstorage early, fun s p f => ?_⟩
  · intro x
    have hnone : x.storage = none := by
      simp only [x, BodyPacket.takeByte, hstorage]
      split_ifs <;> rfl
    rw [exec_lineByte_end hreset hrx hstate, State.settleEnd_of_no_storage hnone]
  · intro c updates qualifies
    refine ⟨fun hupdates => if_pos (BodyPacket.updatesSequence_iff.mpr hupdates),
      fun hkeeps => if_neg (mt BodyPacket.updatesSequence_iff.mp hkeeps), State.settleReference_of_other,
      fun hqualifies c3 c2 c1 c0 f1 f0 hkept => ?_⟩
    intro entry
    rw [State.settleReference_of_candidate hqualifies hkept]
    exact ⟨State.appendReference_of_room entry, State.appendReference_of_full entry⟩

/-! ### RX_FLUSH (R91, R92, R105) -/

section

variable {q : RxQueueId}

theorem State.startRxFlush_of_closed (helsewhere : ∀ w, s.window.record = some w → w.queue ≠ q) :
    s.startRxFlush q =
      (s.setRxQueue q { s.rxQueue q with flush := true, pendingLoss := 0 }).startLong (.rxFlush q) := by
  have hopened : decide (s.window.record.map (·.queue) = some q) = false := by
    rw [decide_eq_false_iff_not, Option.map_eq_some_iff]
    rintro ⟨w, hopen, hqueue⟩
    exact helsewhere w hopen hqueue
  simp only [State.startRxFlush, hopened, Bool.false_eq_true, if_false]

theorem State.startRxFlush_of_open {w : OpenRecord} (hopen : s.window.record = some w) (hqueue : w.queue = q) :
    s.startRxFlush q =
      (((s.setRxQueue q { s.rxQueue q with flush := true, pendingLoss := 0 }).startLong
        (.rxFlush q)).closeWindow).raise .windowLost := by
  have hopened : decide (s.window.record.map (·.queue) = some q) = true := by
    rw [decide_eq_true_eq, hopen, Option.map_some, hqueue]
  simp only [State.startRxFlush, hopened, if_true]

theorem State.completeRxFlush_of_records (hrecords : (s.rxQueue q).records ≠ []) : s.completeRxFlush q = s :=
  if_neg (by simpa using hrecords)

theorem State.completeRxFlush_of_empty (hempty : (s.rxQueue q).records = []) :
    s.completeRxFlush q = (s.setRxQueue q { s.rxQueue q with flush := false }).completeLong :=
  if_pos (by simpa using hempty)

theorem State.setRxQueue_startLong (c : LongCommand) (r : RxQueue) :
    (s.startLong c).setRxQueue q r = (s.setRxQueue q r).startLong c := rfl

theorem State.setRxQueue_returnHolder (n : Nat) (r : RxQueue) :
    (s.returnHolder n).setRxQueue q r = (s.setRxQueue q r).returnHolder n := rfl

/-- A long command that completes in the change of its acceptance leaves the unit as a short one does (R158). -/
theorem State.completeLong_startLong (hidle : s.cmd.running = none) (c : LongCommand) :
    (s.startLong c).completeLong = s.completeCommand .ok := by
  have hsame : ({ s.cmd with running := none, result := .ok } : CommandUnit) = { s.cmd with result := .ok } := by
    rw [← hidle]
  simp only [State.completeLong, State.completeCommand, State.startLong, hsame]

theorem exec_rxFlushRemoval (hreset : s.inReset = false) (hflush : (s.rxQueue q).flush = true) :
    exec (.rxFlushRemoval q) s = .next ((s.removeHeadRecord q).completeRxFlush q) := by
  change execRxFlushRemoval q s = _
  rw [execRxFlushRemoval, State.unlessReset_of_released _ hreset, if_pos hflush]

end

/-- Settles O37: the acceptance by the records and the window, then a removal by what it leaves. -/
theorem rxFlushRemovesHeadFirst : Obligations.RxFlushRemovesHeadFirst := by
  refine ⟨fun s q htakes hqueue => ?_, fun s q rec rest hreset hflush hrecords => ?_⟩
  · intro r busy
    have hexec := exec_rxFlush_of_queue htakes hqueue
    have hflagged : ((s.acceptCommand 0x37).startRxFlush q).rxQueue q = { r with flush := true, pendingLoss := 0 } := by
      simp [State.startRxFlush_rxQueue, r]
    have hopening := State.startRxFlush_of_closed (s := s.acceptCommand 0x37) (q := q)
    refine ⟨fun hrecords helsewhere => ?_, fun hrecords w hopen hwindow => ?_, fun hempty helsewhere => ?_⟩
    · rw [hexec, State.completeRxFlush_of_records (hflagged ▸ hrecords), hopening helsewhere]
      rfl
    · rw [hexec, State.completeRxFlush_of_records (hflagged ▸ hrecords),
        State.startRxFlush_of_open (s := s.acceptCommand 0x37) hopen hwindow]
      rfl
    · rw [hexec, State.completeRxFlush_of_empty (hflagged ▸ hempty), hflagged, hopening helsewhere]
      rw [State.setRxQueue_startLong, State.setRxQueue_setRxQueue, State.completeLong_startLong (by simpa using htakes.2)]
      rfl
  · have hhead := State.removeHeadRecord_of_cons hrecords
    have hqueue : (s.removeHeadRecord q).rxQueue q = { s.rxQueue q with records := rest } := by
      rw [hhead]; exact (State.rxQueue_setRxQueue s q q _).trans (if_pos rfl)
    refine ⟨fun hmore => ?_, fun hlast => ?_⟩
    · rw [exec_rxFlushRemoval hreset hflush, State.completeRxFlush_of_records (by rw [hqueue]; exact hmore), hhead]
    · rw [exec_rxFlushRemoval hreset hflush, State.completeRxFlush_of_empty (by rw [hqueue]; exact hlast), hqueue, hhead,
        State.setRxQueue_returnHolder, State.setRxQueue_setRxQueue, hlast]
      rfl

end Sys2Proof.Machine
end


section
/-! Proofs about selection (08, Selection): which head is the candidate, what the selected one enters, and that a
selection leaves nothing to select. -/

namespace Sys2Proof.Machine

variable {s : State}

/-! ### Due heads and the order among them (R131, R132) -/

theorem TxQueue.dueHead_eq_some {x : TxQueue} {e : TxEntry} :
    x.dueHead = some e ↔ ∃ rest, x.entries = e :: rest ∧ e.due = true ∧ x.paused = false ∧ x.flush = false := by
  unfold TxQueue.dueHead
  cases x.entries with
  | nil => simp
  | cons head tail =>
    by_cases hgoes : head.due = true ∧ x.paused = false ∧ x.flush = false
    · obtain ⟨hdue, hpaused, hflush⟩ := hgoes
      have hpasses : (head.due && !x.paused && !x.flush) = true := by simp [hdue, hpaused, hflush]
      simp only [if_pos hpasses, Option.some.injEq]
      exact ⟨fun heq => ⟨tail, heq ▸ rfl, heq ▸ hdue, hpaused, hflush⟩, fun ⟨_, hcons, _⟩ => (List.cons.inj hcons).1⟩
    · have hstays : ¬(head.due && !x.paused && !x.flush) = true := by simpa [and_assoc] using hgoes
      simp only [if_neg hstays, reduceCtorEq, false_iff]
      rintro ⟨rest, hcons, hdue, hrest⟩
      exact hgoes ⟨(List.cons.inj hcons).1 ▸ hdue, hrest⟩

theorem TxEntry.goesBefore_iff {new best : TxEntry} :
    new.goesBefore best = true ↔ ∃ T, new.launch = some T ∧
      (best.launch = none ∨ ∃ U, best.launch = some U ∧ T.before U = true) := by
  cases hnew : new.launch <;> cases hbest : best.launch <;> simp [TxEntry.goesBefore, hnew, hbest]

/-- The candidate of queue `t` goes before that of queue `u`: an earlier launch time first, any launch time before an
immediate one, and the lower-numbered queue of equals (R132). -/
def Precedes (t : TxQueueId) (e : TxEntry) (u : TxQueueId) (e' : TxEntry) : Prop :=
  (∃ T, e.launch = some T ∧
    (e'.launch = none ∨ ∃ U, e'.launch = some U ∧ (T.before U = true ∨ (T = U ∧ t < u)))) ∨
  (e.launch = none ∧ e'.launch = none ∧ t < u)

/-- A candidate that goes before the best one goes before everything the best one precedes. -/
theorem Precedes.of_goesBefore {t b u : TxQueueId} {e be e' : TxEntry} (hgoes : e.goesBefore be = true)
    (hbest : Precedes b be u e') : Precedes t e u e' := by
  obtain ⟨T, hlaunch, hlater⟩ := TxEntry.goesBefore_iff.mp hgoes
  refine .inl ⟨T, hlaunch, ?_⟩
  rcases hbest with ⟨U, hU, hnone | ⟨V, hV, hafter⟩⟩ | ⟨-, hnone, -⟩
  · exact .inl hnone
  · obtain hnone | ⟨U', hU', hbefore⟩ := hlater
    · rw [hU] at hnone; cases hnone
    obtain rfl : U = U' := Option.some.inj (hU.symm.trans hU')
    refine .inr ⟨V, hV, .inl ?_⟩
    rw [LinkTime.before_iff] at hbefore ⊢
    rcases hafter with hafter | ⟨rfl, -⟩
    · exact hbefore.trans (LinkTime.before_iff.mp hafter)
    · exact hbefore
  · exact .inl hnone

theorem Precedes.of_goesBefore_best {t b : TxQueueId} {e be : TxEntry} (hgoes : e.goesBefore be = true) :
    Precedes t e b be := by
  obtain ⟨T, hlaunch, hlater⟩ := TxEntry.goesBefore_iff.mp hgoes
  exact .inl ⟨T, hlaunch, hlater.imp_right fun ⟨U, hU, hbefore⟩ => ⟨U, hU, .inl hbefore⟩⟩

/-- The best so far precedes a candidate of a higher-numbered queue that does not go before it. -/
theorem Precedes.of_not_goesBefore {t b : TxQueueId} {e be : TxEntry} (hstays : ¬e.goesBefore be = true) (hlt : b < t) :
    Precedes b be t e := by
  rw [TxEntry.goesBefore_iff] at hstays
  cases hbe : be.launch with
  | none =>
    cases he : e.launch with
    | none => exact .inr ⟨hbe, he, hlt⟩
    | some T => exact absurd ⟨T, he, .inl hbe⟩ hstays
  | some U =>
    refine .inl ⟨U, hbe, ?_⟩
    cases he : e.launch with
    | none => exact .inl rfl
    | some T =>
      refine .inr ⟨T, rfl, ?_⟩
      have hnot : ¬T.val < U.val := fun h => hstays ⟨T, he, .inr ⟨U, hbe, LinkTime.before_iff.mpr h⟩⟩
      rcases Nat.lt_or_ge U.val T.val with hbefore | hge
      · exact .inl (LinkTime.before_iff.mpr hbefore)
      · exact .inr ⟨LinkTime.val_inj.mp (by omega), hlt⟩

/-! ### The candidate -/

/-- `best` is the best of the due heads of the queues seen. -/
def State.Best (s : State) (seen : List TxQueueId) : Option (TxQueueId × TxEntry) → Prop
  | none => ∀ u ∈ seen, (s.txQueue u).dueHead = none
  | some (b, be) => (s.txQueue b).dueHead = some be ∧
      ∀ u ∈ seen, ∀ e', u ≠ b → (s.txQueue u).dueHead = some e' → Precedes b be u e'

theorem State.Best.weigh {seen : List TxQueueId} {best : Option (TxQueueId × TxEntry)} {t : TxQueueId}
    (hbest : s.Best seen best) (hlower : ∀ b be, best = some (b, be) → b < t) :
    s.Best (seen ++ [t]) (betterCandidate s best t) := by
  unfold betterCandidate
  cases hhead : (s.txQueue t).dueHead with
  | none =>
    cases best with
    | none =>
      intro u hu
      obtain hu | rfl := by simpa using hu
      · exact hbest u hu
      · exact hhead
    | some pair =>
      refine ⟨hbest.1, fun u hu e' hne he' => ?_⟩
      obtain hu | rfl := by simpa using hu
      · exact hbest.2 u hu e' hne he'
      · rw [hhead] at he'; cases he'
  | some e =>
    cases best with
    | none =>
      refine ⟨hhead, fun u hu e' hne he' => ?_⟩
      obtain hu | rfl := by simpa using hu
      · rw [hbest u hu] at he'; cases he'
      · exact absurd rfl hne
    | some pair =>
      obtain ⟨b, be⟩ := pair
      dsimp only
      split
      next hgoes =>
        refine ⟨hhead, fun u hu e' hne he' => ?_⟩
        obtain hu | rfl := by simpa using hu
        · by_cases hub : u = b
          · subst hub
            obtain rfl : be = e' := Option.some.inj (hbest.1.symm.trans he')
            exact Precedes.of_goesBefore_best hgoes
          · exact Precedes.of_goesBefore hgoes (hbest.2 u hu e' hub he')
        · exact absurd rfl hne
      next hstays =>
        refine ⟨hbest.1, fun u hu e' hne he' => ?_⟩
        obtain hu | rfl := by simpa using hu
        · exact hbest.2 u hu e' hne he'
        · obtain rfl : e = e' := Option.some.inj (hhead.symm.trans he')
          exact Precedes.of_not_goesBefore hstays (hlower b be rfl)

/-- The four queues are weighed in the order of their numbers. -/
theorem State.best_of_all (s : State) :
    s.Best [0, 1, 2, 3] (([0, 1, 2, 3] : List TxQueueId).foldl (betterCandidate s) none) := by
  have hfrom (best : Option (TxQueueId × TxEntry)) (t b : TxQueueId) (be : TxEntry)
      (hsome : betterCandidate s best t = some (b, be)) : b = t ∨ best = some (b, be) := by
    unfold betterCandidate at hsome
    split at hsome
    · exact .inr hsome
    · exact .inl (Prod.mk.inj (Option.some.inj hsome)).1.symm
    · split_ifs at hsome
      · exact .inl (Prod.mk.inj (Option.some.inj hsome)).1.symm
      · exact .inr hsome
  have h0 : s.Best [0] (betterCandidate s none 0) :=
    State.Best.weigh (seen := []) (best := none) (fun _ h => by cases h) (fun _ _ h => by cases h)
  have hb0 (b be) (h : betterCandidate s none 0 = some (b, be)) : b = 0 := (hfrom _ _ _ _ h).resolve_right (by simp)
  have h1 := h0.weigh (t := 1) fun b be h => hb0 b be h ▸ by decide
  have hb1 (b be) (h : betterCandidate s _ 1 = some (b, be)) : b = 1 ∨ b = 0 := (hfrom _ _ _ _ h).imp_right (hb0 b be)
  have h2 := h1.weigh (t := 2) fun b be h => by obtain rfl | rfl := hb1 b be h <;> decide
  have hb2 (b be) (h : betterCandidate s _ 2 = some (b, be)) : b = 2 ∨ b = 1 ∨ b = 0 :=
    (hfrom _ _ _ _ h).imp_right (hb1 b be)
  exact h2.weigh (t := 3) fun b be h => by obtain rfl | rfl | rfl := hb2 b be h <;> decide

theorem mem_all_queues (u : TxQueueId) : u ∈ ([0, 1, 2, 3] : List TxQueueId) := by
  revert u; decide

theorem State.candidate_eq_none_iff : s.candidate = none ↔ ∀ u, (s.txQueue u).dueHead = none := by
  have hbest := s.best_of_all
  unfold State.candidate
  generalize ([0, 1, 2, 3] : List TxQueueId).foldl (betterCandidate s) none = best at hbest ⊢
  cases best with
  | none => exact ⟨fun _ u => hbest u (mem_all_queues u), fun _ => rfl⟩
  | some pair =>
    refine ⟨fun h => by simp at h, fun h => ?_⟩
    have hhead := hbest.1
    rw [h pair.1] at hhead
    cases hhead

theorem State.candidate_eq_some {t : TxQueueId} (hcandidate : s.candidate = some t) :
    ∃ e, (s.txQueue t).dueHead = some e ∧
      ∀ u e', u ≠ t → (s.txQueue u).dueHead = some e' → Precedes t e u e' := by
  have hbest := s.best_of_all
  unfold State.candidate at hcandidate
  generalize ([0, 1, 2, 3] : List TxQueueId).foldl (betterCandidate s) none = best at hbest hcandidate
  cases best with
  | none => cases hcandidate
  | some pair =>
    obtain rfl : pair.1 = t := Option.some.inj hcandidate
    exact ⟨pair.2, hbest.1, fun u e' hne he' => hbest.2 u (mem_all_queues u) e' hne he'⟩

/-- A selection is made exactly when nothing stands against it (R132). -/
theorem State.selects_eq_none_iff :
    s.selects = none ↔ s.txf.state ≠ .idle ∨ s.txf.lineTx = false ∨ s.cmd.running = some .softReset ∨
      ∀ u, (s.txQueue u).dueHead = none := by
  have hsoft : s.softResetting = false ↔ ¬s.cmd.running = some .softReset := decide_eq_false_iff_not
  have hline : s.txf.lineTx = true ↔ ¬s.txf.lineTx = false := by simp
  rw [← State.candidate_eq_none_iff]
  by_cases hmay : s.txf.state = .idle ∧ s.txf.lineTx = true ∧ s.softResetting = false
  · obtain ⟨hidle, hon, hquiet⟩ := id hmay
    rw [State.selects, if_pos hmay]
    simp [hidle, hon, hsoft.mp hquiet]
  · rw [State.selects, if_neg hmay]
    simp only [not_and_or, hline, hsoft, not_not] at hmay
    exact ⟨fun _ => hmay.imp_right (Or.imp_right .inl), fun _ => rfl⟩

/-! ### Sums over queues -/

/-- The sum over a table of queues is a sum over their numbers. -/
theorem sum_toList_map {α : Type} {n : Nat} (v : Vector α n) (f : α → Nat) :
    (v.toList.map f).sum = ∑ i : Fin n, f v[i] := by
  rw [← List.sum_ofFn]
  congr 1
  apply List.ext_getElem <;> simp

/-- Two sums over queues that differ at one queue alone. -/
theorem sum_add_eq_of_other {n : Nat} {f g : Fin n → Nat} (t : Fin n) (hother : ∀ u, u ≠ t → g u = f u) :
    (∑ u, g u) + f t = (∑ u, f u) + g t := by
  have hrest : ∑ u ∈ Finset.univ.erase t, g u = ∑ u ∈ Finset.univ.erase t, f u :=
    Finset.sum_congr rfl fun u hu => hother u (Finset.ne_of_mem_erase hu)
  have hg := Finset.sum_erase_add Finset.univ g (Finset.mem_univ t)
  have hf := Finset.sum_erase_add Finset.univ f (Finset.mem_univ t)
  omega

theorem State.entryTotal_eq (s : State) : s.entryTotal = ∑ u, (s.txQueue u).entries.length := sum_toList_map _ _

/-! ### What the selected head enters (R133, R135, R145) -/

section

variable {t : TxQueueId} {e : TxEntry} {rest : List TxEntry}

theorem State.appendReport_txQueue (r : Report) (u : TxQueueId) : (s.appendReport r).txQueue u = s.txQueue u :=
  State.txQueue_congr (by simp) u

theorem State.removeEntry_of_some {place : Nat} (hentry : (s.txQueue t).entries[place]? = some e) :
    s.removeEntry t place = (s.setTxQueue t
      { s.txQueue t with entries := (s.txQueue t).entries.eraseIdx place }).returnHolder e.cells := by
  simp only [State.removeEntry, hentry]

theorem State.leaveWithReport_of_some {place : Nat} (hentry : (s.txQueue t).entries[place]? = some e)
    (r : ReportResult) :
    s.leaveWithReport t place r = ((s.appendReport (reportOf t e r)).setTxQueue t
      { s.txQueue t with entries := (s.txQueue t).entries.eraseIdx place }).returnHolder e.cells := by
  have hsame := State.appendReport_txQueue (s := s) (reportOf t e r) t
  simp only [State.leaveWithReport, hentry]
  rw [State.removeEntry_of_some (by rw [hsame]; exact hentry), hsame]

theorem State.finishEntry_of_cons (hentries : (s.txQueue t).entries = e :: rest) (r : ReportResult) :
    s.finishEntry t r = (((s.appendReport (reportOf t e r)).setTxQueue t
      { s.txQueue t with entries := rest }).returnHolder e.cells).setTxFramer .idle := by
  rw [State.finishEntry, State.leaveWithReport_of_some (e := e) (by rw [hentries]; rfl), hentries]
  rfl

theorem State.enterWaiting_of_waits (hentries : (s.txQueue t).entries = e :: rest)
    (hwaits : (e.armsDeadline (s.txQueue t).config && e.lateAt (s.txQueue t).config s.time.now) = false) :
    s.enterWaiting t = s.setTxFramer (.waitingLine t (e.armsDeadline (s.txQueue t).config) false) := by
  simp only [State.enterWaiting, hentries, hwaits, Bool.false_eq_true, if_false]

theorem State.enterWaiting_of_late (hentries : (s.txQueue t).entries = e :: rest)
    (hlate : (e.armsDeadline (s.txQueue t).config && e.lateAt (s.txQueue t).config s.time.now) = true) :
    s.enterWaiting t = s.finishEntry t .lateDropped := by
  simp only [State.enterWaiting, hentries, hlate, if_true]

theorem State.finishEntry_entryTotal (hentries : (s.txQueue t).entries = e :: rest) (r : ReportResult) :
    (s.finishEntry t r).entryTotal + 1 = s.entryTotal := by
  have hother (u : TxQueueId) (hu : u ≠ t) :
      ((s.finishEntry t r).txQueue u).entries.length = (s.txQueue u).entries.length := by
    rw [State.finishEntry_txQueue, if_neg hu]
  have hleft : ((s.finishEntry t r).txQueue t).entries.length = rest.length := by
    rw [State.finishEntry_txQueue, if_pos rfl, hentries, List.eraseIdx_cons_zero]
  have hbefore : (s.txQueue t).entries.length = rest.length + 1 := by rw [hentries, List.length_cons]
  have hsums : (s.finishEntry t r).entryTotal + (s.txQueue t).entries.length =
      s.entryTotal + ((s.finishEntry t r).txQueue t).entries.length := by
    rw [State.entryTotal_eq, State.entryTotal_eq]
    exact sum_add_eq_of_other t hother
  omega

/-- A selected head that enters WAITING_LINE ends the selection of the change. -/
theorem State.select_of_waits (hselects : s.selects = some t) (hentries : (s.txQueue t).entries = e :: rest)
    (hwaits : (e.armsDeadline (s.txQueue t).config && e.lateAt (s.txQueue t).config s.time.now) = false) :
    s.select = s.setTxFramer (.waitingLine t (e.armsDeadline (s.txQueue t).config) false) := by
  obtain ⟨n, htotal⟩ : ∃ n, s.entryTotal = n + 1 := ⟨_, (State.finishEntry_entryTotal hentries .sent).symm⟩
  have hnone : (s.setTxFramer (.waitingLine t (e.armsDeadline (s.txQueue t).config) false)).selects = none :=
    State.selects_of_busy _ (by simp)
  rw [State.select, htotal, selectLoop, hselects]
  dsimp only
  rw [State.enterWaiting_of_waits hentries hwaits]
  cases n <;> simp [selectLoop, hnone]

/-- A selected head that is dropped at once is followed by the next selection. -/
theorem State.select_of_late (hselects : s.selects = some t) (hentries : (s.txQueue t).entries = e :: rest)
    (hlate : (e.armsDeadline (s.txQueue t).config && e.lateAt (s.txQueue t).config s.time.now) = true) :
    s.select = (s.finishEntry t .lateDropped).select := by
  rw [State.select, ← State.finishEntry_entryTotal hentries .lateDropped, selectLoop, hselects]
  dsimp only
  rw [State.enterWaiting_of_late hentries hlate]
  rfl

end

/-- A head that can be selected is a due head of its queue. -/
theorem State.selects_due {t : TxQueueId} (hselects : s.selects = some t) :
    ∃ e rest, (s.txQueue t).entries = e :: rest ∧ e.due = true ∧ (s.txQueue t).paused = false ∧
      (s.txQueue t).flush = false ∧ ∀ u e', u ≠ t → (s.txQueue u).dueHead = some e' → Precedes t e u e' := by
  obtain ⟨-, -, -, hcandidate⟩ := s.selects_some hselects
  obtain ⟨e, hhead, hfirst⟩ := State.candidate_eq_some hcandidate
  obtain ⟨rest, hentries, hdue, hpaused, hflush⟩ := TxQueue.dueHead_eq_some.mp hhead
  exact ⟨e, rest, hentries, hdue, hpaused, hflush, hfirst⟩

/-- A selection leaves nothing to select (R132, R133). -/
theorem State.select_selects (s : State) : s.select.selects = none := by
  suffices h : ∀ n s, State.entryTotal s ≤ n → s.select.selects = none from h _ s le_rfl
  intro n
  induction n with
  | zero =>
    intro s hn
    cases hselects : s.selects with
    | none => rwa [s.select_of_none hselects]
    | some t =>
      obtain ⟨e, rest, hentries, -⟩ := State.selects_due hselects
      have := State.finishEntry_entryTotal hentries .sent
      omega
  | succ n ih =>
    intro s hn
    cases hselects : s.selects with
    | none => rwa [s.select_of_none hselects]
    | some t =>
      obtain ⟨e, rest, hentries, -⟩ := State.selects_due hselects
      cases hlate : e.armsDeadline (s.txQueue t).config && e.lateAt (s.txQueue t).config s.time.now with
      | false =>
        rw [State.select_of_waits hselects hentries hlate]
        exact State.selects_of_busy _ (by simp)
      | true =>
        rw [State.select_of_late hselects hentries hlate]
        have := State.finishEntry_entryTotal hentries .lateDropped
        exact ih _ (by omega)

/-! ### The statement about selection -/

theorem TxEntry.lateAt_of_timed {e : TxEntry} {T : LinkTime} (hlaunch : e.launch = some T) (c : TxConfig)
    (now : LinkTime) : e.lateAt c now = (T.addTicks c.tolerance).before now := by
  simp only [TxEntry.lateAt, TxEntry.deadline, hlaunch, Option.map_some]
  rfl

/-- Settles O46: the candidate is the best due head, and the head selected waits or is dropped. -/
theorem selectionPicksTheEarliestDueHead : Obligations.SelectionPicksTheEarliestDueHead := by
  refine ⟨fun x e => TxQueue.dueHead_eq_some, fun s => ⟨State.selects_eq_none_iff, s.select_of_none⟩,
    fun s t hselects => ?_⟩
  obtain ⟨e, rest, hentries, hdue, hpaused, hflush, hfirst⟩ := State.selects_due hselects
  refine ⟨e, rest, hentries, hdue, hpaused, hflush, hfirst, fun hunarmed => ?_, fun T hlaunch hpolicy =>
    ⟨fun hahead => ?_, fun hpassed => ?_⟩⟩
  · have harms : e.armsDeadline (s.txQueue t).config = false := by
      rcases hunarmed with himmediate | hlate
      · simp [TxEntry.armsDeadline, himmediate]
      · simp [TxEntry.armsDeadline, hlate]
    rw [State.select_of_waits hselects hentries (by rw [harms]; rfl), harms]
  · have harms : e.armsDeadline (s.txQueue t).config = true := by simp [TxEntry.armsDeadline, hlaunch, hpolicy]
    rw [State.select_of_waits hselects hentries (by rw [harms, TxEntry.lateAt_of_timed hlaunch, hahead]; rfl), harms]
  · have harms : e.armsDeadline (s.txQueue t).config = true := by simp [TxEntry.armsDeadline, hlaunch, hpolicy]
    rw [State.select_of_late hselects hentries (by rw [harms, TxEntry.lateAt_of_timed hlaunch, hpassed]; rfl),
      State.finishEntry_of_cons hentries]

end Sys2Proof.Machine
end

section
/-! Proofs about the flush flags, the open record and the selection that no step leaves undone (R92, R97, R125, R132,
R133). -/

namespace Sys2Proof.Machine

variable {s t : State}

/-! ### What leaves the flush flags alone -/

/-- Two states with the same flush flags and the same long command running. -/
structure State.SameFlags (s t : State) : Prop where
  rx : ∀ q, (t.rxQueue q).flush = (s.rxQueue q).flush
  tx : ∀ u, (t.txQueue u).flush = (s.txQueue u).flush
  running : t.cmd.running = s.cmd.running

theorem State.SameFlags.agree (h : s.SameFlags t) (hs : s.FlushFlagsAgree) : t.FlushFlagsAgree := by
  obtain ⟨hrx, htx⟩ := hs
  exact ⟨fun q => by rw [h.rx, h.running]; exact hrx q, fun u => by rw [h.tx, h.running]; exact htx u⟩

/-- Of a change that leaves the receive queues alone. -/
theorem State.sameFlags_of_transmit (hrxq : t.rxq = s.rxq) (hrunning : t.cmd.running = s.cmd.running)
    (htx : ∀ u, (t.txQueue u).flush = (s.txQueue u).flush) : s.SameFlags t :=
  ⟨fun q => by rw [State.rxQueue_congr hrxq], htx, hrunning⟩

/-- Of a change that leaves the transmit queues alone. -/
theorem State.sameFlags_of_receive (htxq : t.txq = s.txq) (hrunning : t.cmd.running = s.cmd.running)
    (hrx : ∀ q, (t.rxQueue q).flush = (s.rxQueue q).flush) : s.SameFlags t :=
  ⟨hrx, fun u => by rw [State.txQueue_congr htxq], hrunning⟩

/-- Of a change that leaves both lists of queues alone. -/
theorem State.sameFlags_of_queues (hrxq : t.rxq = s.rxq) (htxq : t.txq = s.txq)
    (hrunning : t.cmd.running = s.cmd.running) : s.SameFlags t :=
  State.sameFlags_of_transmit hrxq hrunning fun u => by rw [State.txQueue_congr htxq]

theorem State.sameFlags_setTxQueue (u : TxQueueId) {x : TxQueue} (hflush : x.flush = (s.txQueue u).flush) :
    s.SameFlags (s.setTxQueue u x) := by
  refine State.sameFlags_of_transmit rfl rfl fun v => ?_
  rw [State.txQueue_setTxQueue]
  split
  next heq => rw [hflush, heq]
  next => rfl

theorem State.sameFlags_setRxQueue (q : RxQueueId) {r : RxQueue} (hflush : r.flush = (s.rxQueue q).flush) :
    s.SameFlags (s.setRxQueue q r) := by
  refine State.sameFlags_of_receive rfl rfl fun v => ?_
  rw [State.rxQueue_setRxQueue]
  split
  next heq => rw [hflush, heq]
  next => rfl

theorem State.sameFlags_finishEntry (u : TxQueueId) (r : ReportResult) : s.SameFlags (s.finishEntry u r) := by
  refine State.sameFlags_of_transmit (by simp) (by simp) fun v => ?_
  rw [State.finishEntry_txQueue]
  split
  next heq => rw [heq]
  next => rfl

theorem State.sameFlags_removeEntry (u : TxQueueId) (place : Nat) : s.SameFlags (s.removeEntry u place) := by
  refine State.sameFlags_of_transmit (by simp) (by simp) fun v => ?_
  rw [State.removeEntry_txQueue]
  split
  next heq => rw [heq]
  next => rfl

theorem State.sameFlags_withdrawEntry (u : TxQueueId) (place : Nat) (r : ReportResult) :
    s.SameFlags (s.withdrawEntry u place r) := by
  refine State.sameFlags_of_transmit (by simp) (by simp) fun v => ?_
  rw [State.withdrawEntry_txQueue]
  split
  next heq => rw [heq]
  next => rfl

theorem State.discardOldest_txQueue (u v : TxQueueId) :
    (s.discardOldest u).txQueue v = (s.removeEntry u (s.oldestNotSending u)).txQueue v := by
  unfold State.discardOldest
  dsimp only
  split <;> rfl

theorem State.sameFlags_discardOldest (u : TxQueueId) : s.SameFlags (s.discardOldest u) := by
  refine State.sameFlags_of_transmit (by simp) (by simp) fun v => ?_
  rw [State.discardOldest_txQueue]
  exact (State.sameFlags_removeEntry u _).tx v

theorem State.sameFlags_removeHeadRecord (q : RxQueueId) : s.SameFlags (s.removeHeadRecord q) := by
  refine State.sameFlags_of_receive (by simp) (by simp) fun v => ?_
  rw [State.removeHeadRecord_rxQueue]
  split
  next heq => rw [heq]
  next => rfl

theorem State.sameFlags_enterWaiting (u : TxQueueId) : s.SameFlags (s.enterWaiting u) := by
  obtain heq | heq | ⟨_, _, _, _, heq⟩ := s.enterWaiting_cases u <;> rw [heq]
  · exact State.sameFlags_of_queues rfl rfl rfl
  · exact State.sameFlags_finishEntry u _
  · exact State.sameFlags_of_queues rfl rfl rfl

theorem State.SameFlags.trans {u : State} (h : s.SameFlags t) (k : t.SameFlags u) : s.SameFlags u :=
  ⟨fun q => (k.rx q).trans (h.rx q), fun q => (k.tx q).trans (h.tx q), k.running.trans h.running⟩

theorem State.sameFlags_completeEntry (u : TxQueueId) (e : TxEntry) : s.SameFlags (s.completeEntry u e) := by
  have hadvanced (c : ChannelId) (v : BitVec 4) : s.SameFlags (s.setTxSequence c v) :=
    State.sameFlags_of_queues rfl rfl rfl
  exact (hadvanced _ _).trans (State.sameFlags_finishEntry u _)

theorem State.sameFlags_select : s.SameFlags s.select :=
  s.select_preserves (P := s.SameFlags) (fun _ u _ hv => hv.trans (State.sameFlags_enterWaiting u))
    ⟨fun _ => rfl, fun _ => rfl, rfl⟩

/-! ### The flags at the end of a long command -/

theorem State.FlushFlagsAgree.of_running (hrx : ∀ q, (s.rxQueue q).flush = false)
    (htx : ∀ u, (s.txQueue u).flush = false) (hrunning : s.cmd.running = none ∨ s.cmd.running = some .softReset) :
    s.FlushFlagsAgree := by
  refine ⟨fun q => ?_, fun u => ?_⟩
  · rw [hrx q]; obtain h | h := hrunning <;> simp [h]
  · rw [htx u]; obtain h | h := hrunning <;> simp [h]

theorem State.FlushFlagsAgree.rx_clear (h : s.FlushFlagsAgree) {q : RxQueueId}
    (hnot : s.cmd.running ≠ some (.rxFlush q)) : (s.rxQueue q).flush = false := by
  simpa using mt (h.1 q).mp hnot

theorem State.FlushFlagsAgree.tx_clear (h : s.FlushFlagsAgree) {u : TxQueueId}
    (hnot : s.cmd.running ≠ some (.txFlush u)) : (s.txQueue u).flush = false := by
  simpa using mt (h.2 u).mp hnot

/-- The completion of TX_FLUSH clears the one flag that stands (R125). -/
theorem State.FlushFlagsAgree.completeTxFlush (h : s.FlushFlagsAgree) : s.completeTxFlush.FlushFlagsAgree := by
  unfold State.completeTxFlush
  split
  next u hrunning =>
    split
    next =>
      refine .of_running (fun q => ?_) (fun v => ?_) (.inl rfl)
      · exact h.rx_clear (by simp [hrunning])
      · rw [State.txQueue_congr (State.completeLong_txq _), State.txQueue_setTxQueue]
        split
        next => rfl
        next hne => exact h.tx_clear (by simpa [hrunning] using Ne.symm hne)
    next => exact h
  next => exact h

theorem State.FlushFlagsAgree.afterTransmit (h : s.FlushFlagsAgree) : s.afterTransmit.FlushFlagsAgree :=
  State.sameFlags_select.agree h.completeTxFlush

/-- The completion of RX_FLUSH clears the one flag that stands (R92). -/
theorem State.FlushFlagsAgree.completeRxFlush (h : s.FlushFlagsAgree) {q : RxQueueId}
    (hrunning : s.cmd.running = some (.rxFlush q)) : (s.completeRxFlush q).FlushFlagsAgree := by
  by_cases hempty : (s.rxQueue q).records = []
  · rw [State.completeRxFlush_of_empty hempty]
    refine .of_running (fun v => ?_) (fun u => ?_) (.inl rfl)
    · rw [State.rxQueue_congr (State.completeLong_rxq _), State.rxQueue_setRxQueue]
      split
      next => rfl
      next hne => exact h.rx_clear (by simpa [hrunning] using Ne.symm hne)
    · exact h.tx_clear (by simp [hrunning])
  · rwa [State.completeRxFlush_of_records hempty]

/-- SOFT_RESET runs with every flag clear, and so completes (R162, R164). -/
theorem State.FlushFlagsAgree.completeSoftReset (h : s.FlushFlagsAgree) : s.completeSoftReset.FlushFlagsAgree := by
  unfold State.completeSoftReset
  split
  next hdone =>
    have hrunning : s.cmd.running = some .softReset := by
      simp only [Bool.and_eq_true, State.softResetting, decide_eq_true_eq] at hdone
      exact hdone.1
    exact .of_running (fun q => h.rx_clear (by simp [hrunning])) (fun u => h.tx_clear (by simp [hrunning])) (.inl rfl)
  next => exact h

/-! ### The moves -/

theorem RxQueue.Adjusts.keeps {now : LinkTime} {r x : RxQueue} (h : r.Adjusts now x) :
    x.records = r.records ∧ x.flush = r.flush := by
  cases h
  case rearm h =>
    unfold RxQueue.rearm at h
    split at h <;> cases h <;> exact ⟨rfl, rfl⟩
  case resume h =>
    unfold RxQueue.resume at h
    split at h <;> cases h <;> exact ⟨rfl, rfl⟩
  case enable => exact ⟨by simp, by simp⟩
  case stopReached => exact ⟨by simp, by simp⟩
  all_goals exact ⟨rfl, rfl⟩

theorem RxQueue.Takes.flush {r x : RxQueue} (h : r.Takes x) : x.flush = r.flush := by
  cases h
  case refuse | reject | start => rfl
  case lose => simp
  case commit => simp

theorem State.sameFlags_startByte (data : Byte) (eop err : Bool) : s.SameFlags (s.startByte data eop err) :=
  State.sameFlags_of_receive (by simp) (by simp) fun q =>
    State.startByte_keeps (Q := fun r => r.flush = (s.rxQueue q).flush) (fun _ _ htakes h => htakes.flush.trans h) q
      data eop err rfl

theorem State.sameFlags_otherByte (data : Byte) (eop err : Bool) : s.SameFlags (s.otherByte data eop err) :=
  State.sameFlags_of_receive (by simp) (by simp) fun q =>
    State.otherByte_keeps (Q := fun r => r.flush = (s.rxQueue q).flush) (fun _ _ htakes h => htakes.flush.trans h) q
      data eop err rfl

theorem State.sameFlags_deadlineChange (old new : LinkTime) : s.SameFlags (s.deadlineChange old new) := by
  obtain heq | ⟨u, _, _, _, _, ⟨_, heq⟩ | ⟨_, _, heq⟩⟩ := s.deadlineChange_cases old new <;> rw [heq]
  · exact State.sameFlags_of_queues rfl rfl rfl
  · exact State.sameFlags_finishEntry u _
  · exact State.sameFlags_of_queues rfl rfl rfl

theorem State.sameFlags_watched (old new : LinkTime) : s.SameFlags (s.watched old new) :=
  ⟨fun q => by simp, fun u => by simp [TxQueue.timeChange], rfl⟩

theorem State.FlushFlagsAgree.timeChange (h : s.FlushFlagsAgree) (old new : LinkTime) :
    (s.timeChange old new).FlushFlagsAgree := by
  rw [State.timeChange_eq]
  exact (((State.sameFlags_watched old new).trans (State.sameFlags_deadlineChange old new)).agree h).afterTransmit

/-- The part of a boundary before its change of link time leaves the queues and the command unit alone. -/
theorem State.takeBoundary_before : ∃ b : State, s.takeBoundary = b.timeChange s.time.now s.time.boundary.now ∧
    b.time = s.time.boundary ∧ b.rxq = s.rxq ∧ b.txq = s.txq ∧ b.cmd = s.cmd ∧ b.window = s.window ∧
    b.txf = s.noteBoundary.txf ∧ b.staging = s.staging ∧ b.rxf = s.rxf := by
  refine ⟨_, rfl, ?_⟩
  unfold State.noteBoundary
  split <;> simp

theorem State.takeCountingEdge_before : ∃ b : State,
    s.takeCountingEdge = b.timeChange s.time.now s.time.countEdge.now ∧ b.time = s.time.countEdge ∧ b.rxq = s.rxq ∧
      b.txq = s.txq ∧ b.cmd = s.cmd ∧ b.window = s.window ∧ b.txf = s.txf ∧ b.staging = s.staging ∧ b.rxf = s.rxf :=
  ⟨_, rfl, by simp⟩

/-- The start of RX_FLUSH sets one flag, on an IDLE unit (R91). -/
theorem State.FlushFlagsAgree.startRxFlush (h : s.FlushFlagsAgree) {q : RxQueueId} (hidle : s.cmd.running = none) :
    (s.startRxFlush q).FlushFlagsAgree ∧ (s.startRxFlush q).cmd.running = some (.rxFlush q) := by
  have hrunning : (s.startRxFlush q).cmd.running = some (.rxFlush q) := by
    unfold State.startRxFlush
    dsimp only
    split <;> rfl
  refine ⟨⟨fun v => ?_, fun u => ?_⟩, hrunning⟩
  · rw [State.startRxFlush_rxQueue, hrunning]
    split
    next heq => simp [heq]
    next hne => simpa [h.rx_clear (q := v) (by simp [hidle])] using Ne.symm hne
  · rw [State.txQueue_congr (s := s.startRxFlush q) (t := s) (by simp), hrunning,
      h.tx_clear (u := u) (by simp [hidle])]
    simp

/-- The start of TX_FLUSH sets one flag, on an IDLE unit (R124). -/
theorem State.FlushFlagsAgree.startTxFlush (h : s.FlushFlagsAgree) {u : TxQueueId} (hidle : s.cmd.running = none) :
    ((s.setTxQueue u { s.txQueue u with flush := true }).startLong (.txFlush u)).FlushFlagsAgree := by
  refine ⟨fun q => ?_, fun v => ?_⟩
  · have hclear : (s.rxQueue q).flush = false := h.rx_clear (by simp [hidle])
    change (s.rxQueue q).flush = true ↔ some (LongCommand.txFlush u) = some (.rxFlush q)
    simp [hclear]
  · have hclear : (s.txQueue v).flush = false := h.tx_clear (by simp [hidle])
    rw [State.txQueue_congr (State.startLong_txq _ _), State.txQueue_setTxQueue]
    change _ ↔ some (LongCommand.txFlush u) = some (.txFlush v)
    split
    next heq => simp [heq]
    next hne => simpa [hclear] using Ne.symm hne

/-- The acceptance of SOFT_RESET clears every flag (R95, R128, R162). -/
theorem State.acceptSoftReset_flushFlagsAgree : s.acceptSoftReset.FlushFlagsAgree := by
  have hblocks : s.softResetBlocks.FlushFlagsAgree := by
    refine .of_running (fun q => ?_) (fun u => by simp) (.inr (by simp))
    rw [State.rxQueue_congr (t := { s with rxq := s.rxq.map RxQueue.softReset }) (by simp), State.rxQueue_map]
    rfl
  have htransmit (x : State) : x.SameFlags x.softResetTransmit := by
    unfold State.softResetTransmit
    split
    · exact State.sameFlags_of_queues rfl rfl rfl
    next u _ _ _ => exact (State.sameFlags_removeEntry u 0).trans (State.sameFlags_of_queues rfl rfl rfl)
    · exact State.sameFlags_of_queues rfl rfl rfl
  rw [State.acceptSoftReset_eq]
  exact ((htransmit _).trans (State.sameFlags_of_queues (t := State.clearReports _) rfl rfl rfl)
    |>.agree hblocks).completeSoftReset.afterTransmit

/-- Every move keeps the flush flags in agreement with the command unit. -/
theorem State.Moves.flushFlagsAgree (h : s.Moves t) (hs : s.FlushFlagsAgree) : t.FlushFlagsAgree := by
  have hqueues {x : State} (hrxq : x.rxq = s.rxq) (htxq : x.txq = s.txq) (hcmd : x.cmd = s.cmd) :
      x.FlushFlagsAgree := (State.sameFlags_of_queues hrxq htxq (by rw [hcmd])).agree hs
  have hqueue (u : TxQueueId) (y : TxQueue) (hflush : y.flush = (s.txQueue u).flush) :
      (s.setTxQueue u y).FlushFlagsAgree := (State.sameFlags_setTxQueue u hflush).agree hs
  cases h
  -- moves that leave the queues and the unit
  case writeTime | popReport | openWindow | closeWindow | release => exact hs
  case lineRxOff | beginStaging | abandon | lineTxOff => exact hqueues (by simp) (by simp) (by simp)
  case lineTxOn => exact (hqueues (x := { s with txf := { s.txf with lineTx := true } }) rfl rfl rfl).afterTransmit
  -- resets
  case hardwareReset => exact .of_running (fun q => by simp [RxQueue.reset]) (fun u => by simp [TxQueue.reset]) (.inl rfl)
  case acceptSoftReset => exact State.acceptSoftReset_flushFlagsAgree
  case softResetRxRemoval q _ => exact ((State.sameFlags_removeHeadRecord q).agree hs).completeSoftReset.afterTransmit
  case softResetTxRemoval u _ _ => exact ((State.sameFlags_discardOldest u).agree hs).completeSoftReset.afterTransmit
  case endCut a _ _ =>
    exact (((State.sameFlags_removeEntry a.queue 0).trans (State.sameFlags_of_queues (t := State.setTxFramer _ .idle)
      rfl rfl rfl)).agree hs).completeSoftReset.afterTransmit
  -- time
  case boundary =>
    obtain ⟨b, heq, _, hrxq, htxq, hcmd, _⟩ := s.takeBoundary_before
    exact heq ▸ (hqueues hrxq htxq hcmd).timeChange _ _
  case countingEdge =>
    obtain ⟨b, heq, _, hrxq, htxq, hcmd, _⟩ := s.takeCountingEdge_before
    exact heq ▸ (hqueues hrxq htxq hcmd).timeChange _ _
  -- the receive side
  case adjustRx q r hadjusts _ => exact (State.sameFlags_setRxQueue q hadjusts.keeps.2).agree hs
  case startByte data eop err => exact (State.sameFlags_startByte data eop err).agree hs
  case otherByte data eop err => exact (State.sameFlags_otherByte data eop err).agree hs
  case startRxFlush q hidle =>
    obtain ⟨hstarted, hrunning⟩ := hs.startRxFlush (q := q) hidle
    exact hstarted.completeRxFlush hrunning
  case rxFlushRemoval q hflush =>
    have hsame := State.sameFlags_removeHeadRecord (s := s) q
    exact (hsame.agree hs).completeRxFlush (hsame.running.trans ((hs.1 q).mp hflush))
  case releaseWindow w _ _ => exact (State.sameFlags_removeHeadRecord w.queue).agree hs
  -- the transmit side
  case submit r _ _ _ _ =>
    refine State.FlushFlagsAgree.afterTransmit ?_
    exact (State.sameFlags_of_queues (s := s.setTxQueue r.queue _) rfl rfl rfl).agree (hqueue r.queue _ rfl)
  case configureTx u g _ _ => exact hqueue u _ rfl
  case pauseTx u => exact hqueue u _ rfl
  case startTx u =>
    refine State.FlushFlagsAgree.afterTransmit ?_
    exact hqueue u _ rfl
  case startTxFlush u hidle => exact (hs.startTxFlush hidle).completeTxFlush
  case withdraw u place r _ _ => exact ((State.sameFlags_withdrawEntry u place r).agree hs).afterTransmit
  case launch u place e _ =>
    refine State.FlushFlagsAgree.afterTransmit ?_
    exact hqueue u _ rfl
  case expire u _ _ => exact ((State.sameFlags_finishEntry u _).agree hs).afterTransmit
  case beginAttempt u _ _ _ _ _ _ =>
    refine State.FlushFlagsAgree.afterTransmit ?_
    exact (State.sameFlags_of_queues (s := s.setHead u _) rfl rfl rfl).agree (hqueue u _ rfl)
  case acceptByte a e _ _ _ _ =>
    have hheld : (s.setHead a.queue (e.accepted a.position s.time.stamp)).FlushFlagsAgree := hqueue a.queue _ rfl
    unfold State.acceptByte
    dsimp only
    split
    · exact (State.sameFlags_of_queues (t := State.setTxFramer _ _) rfl rfl rfl).agree hheld
    · exact ((State.sameFlags_completeEntry a.queue _).agree hheld).afterTransmit
  case retry a _ _ _ _ _ _ =>
    unfold State.retryEntry
    split
    · exact ((State.sameFlags_enterWaiting a.queue).agree hs).afterTransmit
    · exact (hqueues (x := s.setTxFramer .idle) rfl rfl rfl).afterTransmit
  case abort a _ _ => exact ((State.sameFlags_finishEntry a.queue _).agree hs).afterTransmit

theorem State.Alike.flushFlagsAgree (h : s.Alike t) (hs : s.FlushFlagsAgree) : t.FlushFlagsAgree :=
  (State.sameFlags_of_queues h.rxq h.txq h.running).agree hs

/-! ### The long command that runs -/

variable {c : LongCommand}

theorem State.running_of_completeTxFlush (h : s.completeTxFlush.cmd.running = some c) : s.cmd.running = some c := by
  unfold State.completeTxFlush at h
  split at h
  · split at h
    · cases h
    · exact h
  · exact h

theorem State.running_of_afterTransmit (h : s.afterTransmit.cmd.running = some c) : s.cmd.running = some c :=
  State.running_of_completeTxFlush (by rwa [State.afterTransmit, State.sameFlags_select.running] at h)

theorem State.running_of_completeRxFlush {q : RxQueueId} (h : (s.completeRxFlush q).cmd.running = some c) :
    s.cmd.running = some c := by
  unfold State.completeRxFlush at h
  split at h
  · cases h
  · exact h

theorem State.running_of_completeSoftReset (h : s.completeSoftReset.cmd.running = some c) : s.cmd.running = some c := by
  unfold State.completeSoftReset at h
  split at h
  · cases h
  · exact h

theorem State.running_of_endCut {u : TxQueueId} (h : (s.endCut u).cmd.running = some c) : s.cmd.running = some c := by
  have hremoved := State.running_of_completeSoftReset h
  rwa [State.setTxFramer_cmd, (s.removeEntry_frame u 0).2.2.2.2.2.2.2.2.2.2.1] at hremoved

/-! ### The open record (R97) -/

theorem State.openIsHead_of_closed (hclosed : s.window.record = none) : s.OpenIsHead := fun w hw => by
  rw [hclosed] at hw; cases hw

/-- A change that leaves the window open where it was, empties no queue and starts nothing that removes records. -/
theorem State.OpenIsHead.keep (h : s.OpenIsHead)
    (hwindow : t.window.record.map (·.queue) = s.window.record.map (·.queue))
    (hrecords : ∀ q, (s.rxQueue q).records ≠ [] → (t.rxQueue q).records ≠ [])
    (hrunning : ∀ c, t.cmd.running = some c → s.cmd.running = some c ∨ ∃ u, c = .txFlush u) : t.OpenIsHead := by
  intro w hw
  rw [hw, Option.map_some] at hwindow
  obtain ⟨v, hv, hqueue⟩ := Option.map_eq_some_iff.mp hwindow.symm
  obtain ⟨hhead, hflush, hsoft⟩ := h v hv
  have hcalm : s.cmd.running ≠ some .softReset := by simpa [State.softResetting] using hsoft
  rw [hqueue] at hhead hflush
  refine ⟨hrecords _ hhead, fun hrun => ?_, decide_eq_false fun hrun => ?_⟩
  · obtain hrun | ⟨u, hrun⟩ := hrunning _ hrun
    · exact hflush hrun
    · cases hrun
  · obtain hrun | ⟨u, hrun⟩ := hrunning _ hrun
    · exact hcalm hrun
    · cases hrun

/-- The same of a change that leaves the window and the receive queues alone. -/
theorem State.OpenIsHead.keep_of_frame (h : s.OpenIsHead) (hwindow : t.window = s.window) (hrxq : t.rxq = s.rxq)
    (hrunning : ∀ c, t.cmd.running = some c → s.cmd.running = some c ∨ ∃ u, c = .txFlush u) : t.OpenIsHead :=
  h.keep (by rw [hwindow]) (fun q hq => by rwa [State.rxQueue_congr hrxq]) hrunning

theorem RxQueue.Takes.records_ne_nil {r x : RxQueue} (h : r.Takes x) (hrecords : r.records ≠ []) : x.records ≠ [] := by
  cases h
  case refuse | reject | start => exact hrecords
  case lose => simpa using hrecords
  case commit => simp

theorem State.OpenIsHead.timeChange (h : s.OpenIsHead) (old new : LinkTime) : (s.timeChange old new).OpenIsHead := by
  refine h.keep (by simp) (fun q hq => ?_) fun c hc => .inl ?_
  · rw [State.rxQueue_congr (t := { s with rxq := s.rxq.map (RxQueue.timeChange old new) }) (by simp), State.rxQueue_map]
    simpa using hq
  · rw [State.timeChange_eq] at hc
    simpa [State.watched] using State.running_of_afterTransmit hc

theorem State.OpenIsHead.startRxFlush (h : s.OpenIsHead) (q : RxQueueId) :
    (s.startRxFlush q).OpenIsHead := by
  by_cases hopen : s.window.record.map (·.queue) = some q
  · exact State.openIsHead_of_closed (by simp [State.startRxFlush, hopen])
  · have hwindow : (s.startRxFlush q).window = s.window := by simp [State.startRxFlush, hopen]
    have hrunning : (s.startRxFlush q).cmd.running = some (.rxFlush q) := by simp [State.startRxFlush, hopen]
    intro w hw
    rw [hwindow] at hw
    have helsewhere : w.queue ≠ q := fun heq => hopen (by simp [hw, heq])
    refine ⟨?_, by simpa [hrunning] using helsewhere.symm, decide_eq_false (by simp [hrunning])⟩
    rw [State.startRxFlush_rxQueue, if_neg helsewhere]
    exact (h w hw).1

/-- A removal of records keeps the window if it is open on another queue. -/
theorem State.OpenIsHead.removeHeadRecord (h : s.OpenIsHead) {q : RxQueueId}
    (helsewhere : ∀ w, s.window.record = some w → w.queue ≠ q) : (s.removeHeadRecord q).OpenIsHead := by
  intro w hw
  rw [(s.removeHeadRecord_frame q).2.2.2.2.2.1] at hw
  have hsame : (s.removeHeadRecord q).cmd = s.cmd := by simp
  refine ⟨?_, hsame ▸ (h w hw).2.1, ?_⟩
  · rw [State.removeHeadRecord_rxQueue, if_neg (helsewhere w hw)]
    exact (h w hw).1
  · rw [State.softResetting, hsame]
    exact (h w hw).2.2

theorem State.OpenIsHead.completeRxFlush (h : s.OpenIsHead) (q : RxQueueId) : (s.completeRxFlush q).OpenIsHead := by
  refine h.keep (by simp) (fun v hv => ?_) fun c hc => .inl (State.running_of_completeRxFlush hc)
  rw [State.completeRxFlush_rxQueue]
  split
  next heq => exact absurd (heq.1 ▸ heq.2) hv
  next => exact hv

/-- Every move keeps the open record at the head of its queue. -/
theorem State.Moves.openIsHead (h : s.Moves t) (hflags : s.FlushFlagsAgree) (hs : s.OpenIsHead) : t.OpenIsHead := by
  have hquiet {x : State} (hwindow : x.window = s.window) (hrxq : x.rxq = s.rxq) (hcmd : x.cmd = s.cmd) :
      x.OpenIsHead := hs.keep_of_frame hwindow hrxq fun c hc => .inl (by rwa [hcmd] at hc)
  have hafter {x : State} (hwindow : x.window = s.window) (hrxq : x.rxq = s.rxq) (hcmd : x.cmd = s.cmd) :
      x.afterTransmit.OpenIsHead :=
    hs.keep_of_frame (by simpa using hwindow) (by simpa using hrxq) fun c hc =>
      .inl (by simpa [hcmd] using State.running_of_afterTransmit hc)
  cases h
  -- moves that leave the receive queues, the window and the unit
  case writeTime | popReport | configureTx | pauseTx | release => exact hs
  case lineRxOff | beginStaging | abandon | lineTxOff => exact hquiet (by simp) (by simp) (by simp)
  case submit | startTx | withdraw | launch | expire | beginAttempt | retry | abort =>
    exact hafter (by simp [State.beginAttempt, State.setHead]) (by simp [State.beginAttempt, State.setHead])
      (by simp [State.beginAttempt, State.setHead])
  case lineTxOn => exact hafter (x := { s with txf := { s.txf with lineTx := true } }) rfl rfl rfl
  case acceptByte a e _ _ _ _ =>
    unfold State.acceptByte
    dsimp only
    split
    · exact hquiet rfl rfl rfl
    · exact hafter (by simp [State.completeEntry, State.setHead]) (by simp [State.completeEntry, State.setHead])
        (by simp [State.completeEntry, State.setHead])
  -- moves that start or complete a long command
  case startTxFlush u _ =>
    refine hs.keep_of_frame (by simp) (by simp) fun c hc => .inr ⟨u, ?_⟩
    have hrun := State.running_of_completeTxFlush hc
    exact (Option.some.inj hrun).symm
  case endCut a _ _ =>
    exact hs.keep_of_frame (by simp) (by simp) fun c hc =>
      .inl (State.running_of_endCut (State.running_of_afterTransmit hc))
  case softResetTxRemoval u _ _ =>
    refine hs.keep_of_frame (by simp) (by simp) fun c hc => .inl ?_
    simpa using State.running_of_completeSoftReset (State.running_of_afterTransmit hc)
  case softResetRxRemoval q hsoft =>
    refine State.openIsHead_of_closed ?_
    cases hopen : s.window.record with
    | none => simpa using hopen
    | some w => rw [(hs w hopen).2.2] at hsoft; cases hsoft
  case hardwareReset => exact State.openIsHead_of_closed rfl
  case acceptSoftReset => exact State.openIsHead_of_closed (by simp [State.acceptSoftReset_eq, State.clearReports])
  -- time
  case boundary =>
    obtain ⟨b, heq, _, hrxq, _, hcmd, hwindow, _⟩ := s.takeBoundary_before
    exact heq ▸ (hquiet hwindow hrxq hcmd).timeChange _ _
  case countingEdge =>
    obtain ⟨b, heq, _, hrxq, _, hcmd, hwindow, _⟩ := s.takeCountingEdge_before
    exact heq ▸ (hquiet hwindow hrxq hcmd).timeChange _ _
  -- the receive queues
  case adjustRx q r hadjusts _ =>
    refine hs.keep rfl (fun v hv => ?_) fun c hc => .inl hc
    rw [State.rxQueue_setRxQueue]
    split
    next heq => rw [hadjusts.keeps.1, ← heq]; exact hv
    next => exact hv
  case startByte data eop err =>
    exact hs.keep (by simp) (fun q => State.startByte_keeps (Q := fun r => r.records ≠ [])
      (fun _ _ htakes => htakes.records_ne_nil) q data eop err) fun c hc => .inl (by simpa using hc)
  case otherByte data eop err =>
    exact hs.keep (by simp) (fun q => State.otherByte_keeps (Q := fun r => r.records ≠ [])
      (fun _ _ htakes => htakes.records_ne_nil) q data eop err) fun c hc => .inl (by simpa using hc)
  case startRxFlush q _ => exact (hs.startRxFlush q).completeRxFlush q
  case rxFlushRemoval q hflush =>
    refine (hs.removeHeadRecord fun w hw heq => ?_).completeRxFlush q
    exact (hs w hw).2.1 (heq ▸ (hflags.1 q).mp hflush)
  -- the window
  case openWindow q hidle hrecords =>
    rintro w ⟨⟩
    exact ⟨hrecords, fun hrun => by simp [hidle] at hrun, by simp [State.softResetting, hidle]⟩
  case releaseWindow | closeWindow => exact State.openIsHead_of_closed rfl

/-- Settles O56. -/
theorem everyStepKeepsTheOpenRecordAtTheHead : Obligations.EveryStepKeepsTheOpenRecordAtTheHead := by
  intro s t hflags hopen hstep
  refine step_keeps (P := fun s => s.FlushFlagsAgree ∧ s.OpenIsHead) (fun s t halike hs => ?_) (fun s t hmoves hs => ?_)
    hstep ⟨hflags, hopen⟩
  · exact ⟨halike.flushFlagsAgree hs.1, hs.2.keep halike.window (fun q hq => by rwa [State.rxQueue_congr halike.rxq])
      fun c hc => .inl (halike.running ▸ hc)⟩
  · exact ⟨hmoves.flushFlagsAgree hs.1, hmoves.openIsHead hs.1 hs.2⟩

/-! ### The selection (R132, R133) -/

theorem State.NothingToSelect.keep (h : s.NothingToSelect) (htxf : t.txf = s.txf) (htxq : t.txq = s.txq)
    (hrunning : s.cmd.running = some .softReset → t.cmd.running = some .softReset) : t.NothingToSelect := by
  unfold State.NothingToSelect at *
  rw [State.selects_eq_none_iff] at *
  simp only [htxf, State.txQueue_congr htxq]
  exact h.imp_right (Or.imp_right (Or.imp_left hrunning))

theorem State.nothingToSelect_of_busy (h : s.txf.state ≠ .idle) : s.NothingToSelect := State.selects_of_busy s h

theorem State.nothingToSelect_of_off (h : s.txf.lineTx = false) : s.NothingToSelect := State.selects_of_off s h

theorem State.afterTransmit_nothingToSelect : s.afterTransmit.NothingToSelect := s.completeTxFlush.select_selects

/-- A queue that is empty, PAUSED or under flush has no due head (R132). -/
theorem TxQueue.dueHead_eq_none {x : TxQueue} (h : x.entries = [] ∨ x.paused = true ∨ x.flush = true) :
    x.dueHead = none := by
  cases hhead : x.dueHead with
  | none => rfl
  | some e =>
    obtain ⟨rest, hentries, -, hpaused, hflush⟩ := TxQueue.dueHead_eq_some.mp hhead
    simp [hentries, hpaused, hflush] at h

/-- With one queue out of the running, what could not be selected before still cannot. -/
theorem State.NothingToSelect.set (h : s.NothingToSelect) (u : TxQueueId) {x : TxQueue} (hx : x.dueHead = none) :
    (s.setTxQueue u x).NothingToSelect := by
  unfold State.NothingToSelect at *
  rw [State.selects_eq_none_iff] at *
  refine h.imp_right (Or.imp_right (Or.imp_right fun hdue v => ?_))
  rw [State.txQueue_setTxQueue]
  split
  · exact hx
  · exact hdue v

/-- The completion of a flush opens no queue that has a due head: it is empty, or its head is being sent (R125). -/
theorem State.NothingToSelect.completeTxFlush (h : s.NothingToSelect) : s.completeTxFlush.NothingToSelect := by
  unfold State.completeTxFlush
  split
  next u hrunning =>
    split
    next hdone =>
      by_cases hidle : s.txf.state = .idle
      · have hempty : (s.txQueue u).entries = [] := by
          unfold State.flushDone at hdone
          split at hdone
          next hentries => exact hentries
          next => simp [hidle] at hdone
          next => cases hdone
        exact (h.set u (x := { s.txQueue u with flush := false }) (TxQueue.dueHead_eq_none (.inl hempty))).keep rfl rfl
          fun hsoft => by simp [hrunning] at hsoft
      · exact State.nothingToSelect_of_busy hidle
    next => exact h
  next => exact h

/-- Every move leaves nothing to select. -/
theorem State.Moves.nothingToSelect (h : s.Moves t) (hflags : s.FlushFlagsAgree) (hs : s.NothingToSelect) :
    t.NothingToSelect := by
  cases h
  -- moves that a selection follows
  case submit | startTx | withdraw | launch | expire | beginAttempt | endCut | retry | abort | lineTxOn |
    acceptSoftReset | softResetRxRemoval | softResetTxRemoval | boundary | countingEdge =>
    exact State.afterTransmit_nothingToSelect
  case acceptByte =>
    unfold State.acceptByte
    dsimp only
    split
    · exact State.nothingToSelect_of_busy (by simp)
    · exact State.afterTransmit_nothingToSelect
  -- moves that turn the transmitter off or leave it busy
  case lineTxOff =>
    refine State.nothingToSelect_of_off ?_
    unfold State.lineTxOff
    dsimp only
    split <;> rfl
  case hardwareReset => exact State.nothingToSelect_of_off rfl
  case release => exact State.nothingToSelect_of_busy (by simp)
  -- moves of one transmit queue
  case configureTx u g hempty _ => exact hs.set u (TxQueue.dueHead_eq_none (.inl hempty))
  case pauseTx u => exact hs.set u (TxQueue.dueHead_eq_none (.inr (.inl rfl)))
  case startTxFlush u hidle =>
    refine State.NothingToSelect.completeTxFlush ?_
    exact (hs.set u (x := { s.txQueue u with flush := true }) (TxQueue.dueHead_eq_none (.inr (.inr rfl)))).keep
      (t := State.startLong _ _) rfl rfl fun hsoft => by simp [hidle] at hsoft
  -- moves of the receive side
  case writeTime | popReport | adjustRx | openWindow | closeWindow => exact hs
  case startByte | otherByte | lineRxOff | releaseWindow | beginStaging | abandon =>
    exact hs.keep (by simp) (by simp) fun hsoft => by simpa using hsoft
  case startRxFlush q hidle =>
    exact hs.keep (by simp) (by simp) fun hsoft => by simp [hidle] at hsoft
  case rxFlushRemoval q hflush =>
    exact hs.keep (by simp) (by simp) fun hsoft => by simp [(hflags.1 q).mp hflush] at hsoft

/-- Settles O57. -/
theorem everyStepLeavesNothingToSelect : Obligations.EveryStepLeavesNothingToSelect := by
  intro s t hflags hnothing hstep
  refine step_keeps (P := fun s => s.FlushFlagsAgree ∧ s.NothingToSelect) (fun s t halike hs => ?_)
    (fun s t hmoves hs => ?_) hstep ⟨hflags, hnothing⟩
  · exact ⟨halike.flushFlagsAgree hs.1, hs.2.keep halike.txf halike.txq fun h => halike.running ▸ h⟩
  · exact ⟨hmoves.flushFlagsAgree hs.1, hmoves.nothingToSelect hs.1 hs.2⟩

end Sys2Proof.Machine
end

section
/-! Proofs about the watchers of link time: none is left behind (R76, R77, R131, R136, R137; log 5, log 6, log 9). -/

namespace Sys2Proof.Machine

variable {s t : State} {r x : RxQueue} {now old new : LinkTime}

/-! ### The watchers of a receive queue -/

/-- The start and the stop that a queue still awaits lie ahead (R76, R77). -/
structure RxQueue.Ahead (now : LinkTime) (r : RxQueue) : Prop where
  start : ∀ T, r.startWatched = some T → now.before T = true
  stop : ∀ T, r.stopWatched = some T → r.state ≠ .stopped .windowEnd → now.before T = true

theorem RxQueue.ahead_of_off (hoff : r.state = .off) : r.Ahead now where
  start T hT := by
    obtain ⟨hpending, -⟩ := RxQueue.startWatched_eq_some.mp hT
    rw [hoff] at hpending; cases hpending
  stop T hT _ := absurd hoff (RxQueue.stopWatched_eq_some.mp hT).1

theorem RxQueue.ahead_of_windowEnd (hstopped : r.state = .stopped .windowEnd) : r.Ahead now where
  start T hT := by
    obtain ⟨hpending, -⟩ := RxQueue.startWatched_eq_some.mp hT
    rw [hstopped] at hpending; cases hpending
  stop _ _ hnot := absurd hstopped hnot

/-- A transition that keeps the state, or goes from a state that awaits its stop time to one that is not PENDING. -/
theorem RxQueue.Ahead.follow (h : r.Ahead now) (hwindow : x.window = r.window)
    (hstate : x.state = r.state ∨ (r.state ≠ .off ∧ r.state ≠ .stopped .windowEnd ∧ x.state ≠ .pending)) :
    x.Ahead now where
  start T hT := by
    obtain ⟨hpending, hstart⟩ := RxQueue.startWatched_eq_some.mp hT
    obtain hsame | ⟨-, -, hnot⟩ := hstate
    · exact h.start T (RxQueue.startWatched_eq_some.mpr ⟨hsame ▸ hpending, hwindow ▸ hstart⟩)
    · exact absurd hpending hnot
  stop T hT hnot := by
    obtain ⟨hon, hstop⟩ := RxQueue.stopWatched_eq_some.mp hT
    obtain hsame | ⟨hron, hrnot, -⟩ := hstate
    · exact h.stop T (RxQueue.stopWatched_eq_some.mpr ⟨hsame ▸ hon, hwindow ▸ hstop⟩) (hsame ▸ hnot)
    · exact h.stop T (RxQueue.stopWatched_eq_some.mpr ⟨hron, hwindow ▸ hstop⟩) hrnot

theorem RxQueue.Ahead.startRunning (h : r.Ahead now) (hpending : r.state = .pending) : r.startRunning.Ahead now :=
  h.follow rfl (.inr ⟨by simp [hpending], by simp [hpending], nofun⟩)

theorem RxQueue.Ahead.reachStop (h : r.Ahead now) : r.reachStop.Ahead now := by
  unfold RxQueue.reachStop
  split
  · exact h
  · exact h
  · exact RxQueue.ahead_of_windowEnd rfl

/-- A loss goes at most from RUN or GRACE to HELD (R61). -/
theorem RxQueue.Ahead.lose (h : r.Ahead now) : r.lose.Ahead now := by
  refine h.follow (by simp) ?_
  unfold RxQueue.lose RxQueue.holdOnLoss
  split
  next hstate => exact .inr ⟨by simp [show r.state = .run from hstate], by simp [show r.state = .run from hstate], nofun⟩
  next hstate =>
    exact .inr ⟨by simp [show r.state = .grace from hstate], by simp [show r.state = .grace from hstate], nofun⟩
  next => exact .inl rfl

/-- Batch accounting goes at most from RUN or GRACE to GRACE or STOPPED (R80, R81). -/
theorem RxQueue.Ahead.accountBatch (h : r.Ahead now) : r.accountBatch.Ahead now := by
  have hcounted (hon : r.state ≠ .off) (hnot : r.state ≠ .stopped .windowEnd) (hpending : r.state ≠ .pending) :
      r.countBatch.state ≠ .pending := by
    unfold RxQueue.countBatch
    dsimp only
    split
    · exact hpending
    · split
      · nofun
      · exact hpending
    · split
      · split <;> nofun
      · exact hpending
  refine h.follow (by simp) ?_
  unfold RxQueue.accountBatch
  split
  case h_3 => exact .inl rfl
  all_goals
    next hstate =>
      have hon : r.state ≠ .off := by simp [hstate]
      have hnot : r.state ≠ .stopped .windowEnd := by simp [hstate]
      exact .inr ⟨hon, hnot, hcounted hon hnot (by simp [hstate])⟩

theorem RxQueue.Ahead.commit (h : r.Ahead now) (rec : RxRecord) : (r.commit rec).Ahead now := by
  unfold RxQueue.commit RxQueue.raiseIf
  dsimp only
  refine RxQueue.Ahead.accountBatch ?_
  split <;> exact h.follow rfl (.inl rfl)

/-- RX_ENABLE leaves the queue waiting only for what lies ahead (R74). -/
theorem RxQueue.enable_ahead (r : RxQueue) (now : LinkTime) : (r.enable now).Ahead now := by
  by_cases hstops : r.Stops now
  · rw [RxQueue.enable_of_stops hstops]
    exact RxQueue.ahead_of_windowEnd rfl
  · rw [RxQueue.enable_of_goes_on hstops]
    refine ⟨fun T hT => ?_, fun T hT _ => ?_⟩
    · obtain ⟨hpending, hstart⟩ := RxQueue.startWatched_eq_some.mp hT
      rw [RxQueue.entered_window] at hstart
      by_cases hruns : r.Runs now
      · rw [RxQueue.entered_of_runs hruns] at hpending
        cases hpending
      · simp only [RxQueue.Runs, not_or, not_exists, not_and] at hruns
        simpa using hruns.2 T hstart
    · obtain ⟨-, hstop⟩ := RxQueue.stopWatched_eq_some.mp hT
      rw [RxQueue.entered_window] at hstop
      simp only [RxQueue.Stops, not_exists, not_and] at hstops
      simpa using hstops T hstop

/-! ### A change of link time at a receive queue -/

/-- The first half of a queue's change: its start (R76). -/
def RxQueue.startChange (old new : LinkTime) (r : RxQueue) : RxQueue :=
  match r.startWatched with
  | some t => if t.reachedBy old new then r.startRunning else r
  | none => r

/-- The second half: its stop (R77). -/
def RxQueue.stopChange (old new : LinkTime) (r : RxQueue) : RxQueue :=
  match r.stopWatched with
  | some t => if t.reachedBy old new then r.reachStop else r
  | none => r

theorem RxQueue.timeChange_eq (old new : LinkTime) (r : RxQueue) :
    r.timeChange old new = (r.startChange old new).stopChange old new := rfl

theorem RxQueue.startChange_of_reached {T : LinkTime} (hwatched : r.startWatched = some T)
    (hreached : T.reachedBy old new = true) : r.startChange old new = r.startRunning := by
  simp [RxQueue.startChange, hwatched, hreached]

theorem RxQueue.startChange_of_ahead (hahead : ∀ T, r.startWatched = some T → T.reachedBy old new = false) :
    r.startChange old new = r := by
  cases hwatched : r.startWatched with
  | none => simp [RxQueue.startChange, hwatched]
  | some T => simp [RxQueue.startChange, hwatched, hahead T hwatched]

theorem RxQueue.stopChange_of_reached {T : LinkTime} (hwatched : r.stopWatched = some T)
    (hreached : T.reachedBy old new = true) : r.stopChange old new = r.reachStop := by
  simp [RxQueue.stopChange, hwatched, hreached]

theorem RxQueue.stopChange_of_ahead (hahead : ∀ T, r.stopWatched = some T → T.reachedBy old new = false) :
    r.stopChange old new = r := by
  cases hwatched : r.stopWatched with
  | none => simp [RxQueue.stopChange, hwatched]
  | some T => simp [RxQueue.stopChange, hwatched, hahead T hwatched]

/-- A time that lay ahead and was not reached lies ahead. -/
theorem LinkTime.before_of_not_reachedBy {T : LinkTime} (hbefore : old.before T = true)
    (hnot : ¬T.reachedBy old new = true) : new.before T = true := by
  rw [LinkTime.before_iff] at *
  rw [LinkTime.reachedBy_iff] at hnot
  omega

/-- A change of link time answers every watcher it reaches, so that the others still lie ahead. -/
theorem RxQueue.Ahead.timeChange (h : r.Ahead old) : (r.timeChange old new).Ahead new := by
  rw [RxQueue.timeChange_eq]
  -- after the start: no start is behind the new time, and the stop still lies ahead of the old one
  have hstart : (∀ T, (r.startChange old new).startWatched = some T → new.before T = true) ∧
      ∀ T, (r.startChange old new).stopWatched = some T →
        (r.startChange old new).state ≠ .stopped .windowEnd → old.before T = true := by
    unfold RxQueue.startChange
    split
    next U hU =>
      split
      next =>
        refine ⟨fun T hT => ?_, (h.startRunning (RxQueue.startWatched_eq_some.mp hU).1).stop⟩
        cases (RxQueue.startWatched_eq_some.mp hT).1
      next hnot =>
        refine ⟨fun T hT => ?_, h.stop⟩
        cases hU.symm.trans hT
        exact LinkTime.before_of_not_reachedBy (h.start _ hU) hnot
    next hnone => exact ⟨fun T hT => (nomatch hnone.symm.trans hT), h.stop⟩
  generalize r.startChange old new = y at hstart ⊢
  obtain ⟨hstarts, hstops⟩ := hstart
  unfold RxQueue.stopChange
  split
  next U hU =>
    split
    next =>
      unfold RxQueue.reachStop
      split
      next hoff => exact RxQueue.ahead_of_off hoff
      next hend => exact RxQueue.ahead_of_windowEnd hend
      next => exact RxQueue.ahead_of_windowEnd rfl
    next hnot =>
      refine ⟨hstarts, fun T hT hstate => ?_⟩
      cases hU.symm.trans hT
      exact LinkTime.before_of_not_reachedBy (hstops _ hU hstate) hnot
  next hnone => exact ⟨hstarts, fun T hT => nomatch hnone.symm.trans hT⟩

/-- Every transition of a receive queue keeps its watchers ahead. -/
theorem RxQueue.ahead_invariant : RxQueue.Invariant RxQueue.Ahead where
  takes now r x htakes hr := by
    cases htakes with
    | refuse => exact hr.follow rfl (.inl rfl)
    | reject => exact hr.follow rfl (.inl rfl)
    | lose => exact hr.lose
    | start hpending _ => exact hr.startRunning hpending
    | commit rec _ _ _ => exact hr.commit rec
  adjusts now r x hadjusts hr := by
    cases hadjusts with
    | events y => exact hr.follow rfl (.inl rfl)
    | configure g hoff _ => exact RxQueue.ahead_of_off hoff
    | setWindow w hoff => exact RxQueue.ahead_of_off hoff
    | enable => exact r.enable_ahead now
    | disable => exact RxQueue.ahead_of_off rfl
    | acknowledge =>
      refine hr.follow rfl ?_
      unfold RxQueue.acknowledge
      dsimp only
      split
      next hstate => exact .inr ⟨by simp [hstate], by simp [hstate], nofun⟩
      next hstate => exact .inr ⟨by simp [hstate], by simp [hstate], nofun⟩
      next => exact .inl rfl
    | rearm h =>
      unfold RxQueue.rearm at h
      split at h
      case h_3 => cases h
      all_goals
        next hstate =>
          cases h
          exact hr.follow rfl (.inr ⟨by simp [hstate], by simp [hstate], nofun⟩)
    | resume h =>
      unfold RxQueue.resume at h
      split at h
      case h_3 => cases h
      all_goals
        next hstate =>
          cases h
          exact hr.follow rfl (.inr ⟨by simp [hstate], by simp [hstate], nofun⟩)
    | startReached hwatched _ => exact hr.startRunning (RxQueue.startWatched_eq_some.mp hwatched).1
    | stopReached => exact hr.reachStop
  flags now r flush loss hr := hr.follow rfl (.inl rfl)
  removal now r hr := hr.follow rfl (.inl rfl)
  softReset now r _ := RxQueue.ahead_of_off rfl
  time old new r hr := hr.timeChange
  reset := RxQueue.ahead_of_off rfl

/-! ### The launch watchers (R131) -/

/-- The launch time of every entry that is not due lies ahead. -/
def State.LaunchesAhead (s : State) : Prop :=
  ∀ u, ∀ e ∈ (s.txQueue u).entries, ∀ T, e.launch = some T → e.due = false → s.time.now.before T = true

/-- `t` has the link time of `s`, and in its transmit queues no entry that `s` does not have. -/
structure State.FewerEntries (s t : State) : Prop where
  now : t.time.now = s.time.now
  entries : ∀ u, (t.txQueue u).entries ⊆ (s.txQueue u).entries

theorem State.FewerEntries.trans {u : State} (h : s.FewerEntries t) (k : t.FewerEntries u) : s.FewerEntries u :=
  ⟨k.now.trans h.now, fun v => List.Subset.trans (k.entries v) (h.entries v)⟩

theorem State.FewerEntries.launchesAhead (h : s.FewerEntries t) (hs : s.LaunchesAhead) : t.LaunchesAhead :=
  fun u e he T hT hdue => h.now ▸ hs u e (h.entries u he) T hT hdue

theorem State.fewerEntries_of_frame (htime : t.time.now = s.time.now) (htxq : t.txq = s.txq) : s.FewerEntries t :=
  ⟨htime, fun u => by rw [State.txQueue_congr htxq]; exact List.Subset.refl _⟩

/-- An entry that leaves leaves the others. -/
theorem State.fewerEntries_of_erased {u : TxQueueId} {place : Nat} (htime : t.time = s.time)
    (hqueue : ∀ v, t.txQueue v =
      if v = u then { s.txQueue u with entries := (s.txQueue u).entries.eraseIdx place } else s.txQueue v) :
    s.FewerEntries t := by
  refine ⟨by rw [htime], fun v => ?_⟩
  rw [hqueue]
  split
  next heq => exact heq ▸ List.eraseIdx_subset
  next => exact List.Subset.refl _

theorem State.fewerEntries_removeEntry (u : TxQueueId) (place : Nat) : s.FewerEntries (s.removeEntry u place) :=
  State.fewerEntries_of_erased (by simp) fun v => s.removeEntry_txQueue u v place

theorem State.fewerEntries_finishEntry (u : TxQueueId) (r : ReportResult) : s.FewerEntries (s.finishEntry u r) :=
  State.fewerEntries_of_erased (by simp) fun v => s.finishEntry_txQueue u v r

theorem State.fewerEntries_withdrawEntry (u : TxQueueId) (place : Nat) (r : ReportResult) :
    s.FewerEntries (s.withdrawEntry u place r) :=
  State.fewerEntries_of_erased (by simp) fun v => s.withdrawEntry_txQueue u v place r

theorem State.fewerEntries_discardOldest (u : TxQueueId) : s.FewerEntries (s.discardOldest u) :=
  State.fewerEntries_of_erased (by simp) fun v => (s.discardOldest_txQueue u v).trans (s.removeEntry_txQueue u v _)

theorem State.fewerEntries_enterWaiting (u : TxQueueId) : s.FewerEntries (s.enterWaiting u) := by
  obtain heq | heq | ⟨_, _, _, _, heq⟩ := s.enterWaiting_cases u <;> rw [heq]
  · exact State.fewerEntries_of_frame rfl rfl
  · exact State.fewerEntries_finishEntry u _
  · exact State.fewerEntries_of_frame rfl rfl

theorem State.fewerEntries_afterTransmit : s.FewerEntries s.afterTransmit := by
  have hflush : s.FewerEntries s.completeTxFlush := by
    refine ⟨by simp, fun u => ?_⟩
    obtain ⟨flush, hqueue⟩ := s.completeTxFlush_txQueue u
    rw [hqueue]
    exact List.Subset.refl _
  exact s.completeTxFlush.select_preserves (P := s.FewerEntries)
    (fun _ u _ hv => hv.trans (State.fewerEntries_enterWaiting u)) hflush

theorem State.LaunchesAhead.afterTransmit (h : s.LaunchesAhead) : s.afterTransmit.LaunchesAhead :=
  State.fewerEntries_afterTransmit.launchesAhead h

/-- A change of one queue whose entries are due, or as they were. -/
theorem State.LaunchesAhead.set (h : s.LaunchesAhead) (u : TxQueueId) {y : TxQueue}
    (hentries : ∀ e ∈ y.entries, ∀ T, e.launch = some T → e.due = false → s.time.now.before T = true) :
    (s.setTxQueue u y).LaunchesAhead := by
  intro v
  rw [State.txQueue_setTxQueue]
  split
  · exact hentries
  · exact h v

theorem State.LaunchesAhead.setHead (h : s.LaunchesAhead) {u : TxQueueId} {e d : TxEntry} {rest : List TxEntry}
    (hentries : (s.txQueue u).entries = e :: rest) (hlaunch : d.launch = e.launch) (hdue : d.due = e.due) :
    (s.setHead u d).LaunchesAhead := by
  refine h.set u fun c hc T hT hwaits => ?_
  rw [hentries, List.tail_cons, List.mem_cons] at hc
  obtain rfl | hc := hc
  · exact h u e (by rw [hentries]; exact List.mem_cons_self) T (hlaunch ▸ hT) (hdue ▸ hwaits)
  · exact h u c (by rw [hentries]; exact List.mem_cons_of_mem _ hc) T hT hwaits

/-- A change of link time makes due every entry that it reaches (R131). -/
theorem State.watched_launchesAhead {b : State} (hnow : b.time.now = new)
    (hb : ∀ u, ∀ e ∈ (b.txQueue u).entries, ∀ T, e.launch = some T → e.due = false → old.before T = true) :
    (b.watched old new).LaunchesAhead := by
  intro u d hd T hT hdue
  change b.time.now.before T = true
  rw [State.watched_txQueue, TxQueue.timeChange, List.mem_map] at hd
  obtain ⟨e, he, rfl⟩ := hd
  rw [hnow]
  cases hlaunch : e.launch with
  | none => simp [TxEntry.timeChange, hlaunch] at hT
  | some U =>
    simp only [TxEntry.timeChange, hlaunch, Option.some.injEq, Bool.or_eq_false_iff] at hT hdue
    subst hT
    exact LinkTime.before_of_not_reachedBy (hb u e he U hlaunch hdue.1) (by simp [hdue.2])

/-! ### The framer and the deadline watcher (R130, R136, R137) -/

/-- The queue whose head is in flight, with the deadline watcher: armed or not, and what it noted of a backward set. -/
def TxFramerState.guards : TxFramerState → Option (TxQueueId × Bool × Bool)
  | .idle => none
  | .waitingLine u armed setBack => some (u, armed, setBack)
  | .sending a => some (a.queue, false, false)

theorem TxFramerState.eq_of_guards_armed {f : TxFramerState} {u : TxQueueId} {setBack : Bool}
    (h : f.guards = some (u, true, setBack)) : f = .waitingLine u true setBack := by
  cases f with
  | idle => cases h
  | waitingLine v armed noted => cases h; rfl
  | sending a => cases h

theorem TxFramerState.inFlightQueue_eq_some_iff {f : TxFramerState} {u : TxQueueId} :
    f.inFlightQueue = some u ↔ ∃ armed setBack, f.guards = some (u, armed, setBack) := by
  cases f with
  | idle => simp [TxFramerState.inFlightQueue, TxFramerState.guards]
  | waitingLine v armed noted => simp [TxFramerState.inFlightQueue, TxFramerState.guards]
  | sending a => simp [TxFramerState.inFlightQueue, TxFramerState.guards]

/-- The entry in flight is a head, and its armed deadline is still ahead. -/
def State.Guarded (s : State) : Prop :=
  ∀ u armed setBack, s.txf.state.guards = some (u, armed, setBack) →
    ∃ e rest, (s.txQueue u).entries = e :: rest ∧
      (armed = true → e.releasedAt (s.txQueue u).config s.time.now setBack = false)

theorem State.guarded_iff : s.Guarded ↔ s.InFlightIsHead ∧
    ∀ t e setBack, s.txf.state = .waitingLine t true setBack → (s.txQueue t).entries.head? = some e →
      e.releasedAt (s.txQueue t).config s.time.now setBack = false := by
  refine ⟨fun h => ⟨fun u hu => ?_, fun u e setBack hstate hhead => ?_⟩, fun ⟨hhead, hahead⟩ u armed setBack hu => ?_⟩
  · obtain ⟨armed, setBack, hguards⟩ := TxFramerState.inFlightQueue_eq_some_iff.mp hu
    obtain ⟨e, rest, hentries, -⟩ := h u armed setBack hguards
    simp [hentries]
  · obtain ⟨d, rest, hentries, hahead⟩ := h u true setBack (by rw [hstate]; rfl)
    rw [hentries, List.head?_cons, Option.some.injEq] at hhead
    exact hhead ▸ hahead rfl
  · have hflight : s.txf.state.inFlightQueue = some u :=
      TxFramerState.inFlightQueue_eq_some_iff.mpr ⟨armed, setBack, hu⟩
    obtain ⟨e, rest, hentries⟩ := List.exists_cons_of_ne_nil (hhead u hflight)
    refine ⟨e, rest, hentries, fun harmed => hahead u e setBack ?_ (by rw [hentries]; rfl)⟩
    exact TxFramerState.eq_of_guards_armed (harmed ▸ hu)

theorem State.guarded_of_idle (hidle : s.txf.state = .idle) : s.Guarded := fun u armed setBack hu => by
  rw [hidle] at hu; cases hu

theorem State.guarded_of_sending {a : Attempt} (hsending : s.txf.state = .sending a) {e : TxEntry}
    {rest : List TxEntry} (hentries : (s.txQueue a.queue).entries = e :: rest) : s.Guarded := by
  intro u armed setBack hu
  rw [hsending] at hu
  cases hu
  exact ⟨e, rest, hentries, nofun⟩

theorem TxEntry.releasedAt_congr {e d : TxEntry} (hlaunch : d.launch = e.launch) (c : TxConfig) (setBack : Bool) :
    d.releasedAt c now setBack = e.releasedAt c now setBack := by
  simp only [TxEntry.releasedAt, TxEntry.deadline, hlaunch]

/-- Without a backward set an armed deadline is answered by being passed (R137). -/
theorem TxEntry.releasedAt_false (e : TxEntry) (c : TxConfig) (now : LinkTime) :
    e.releasedAt c now false = e.lateAt c now := by
  unfold TxEntry.releasedAt TxEntry.lateAt
  cases e.deadline c with
  | none => rfl
  | some d => simp [LinkTime.releasedAt]

/-- A change that leaves the framer and link time, and the configuration of each queue and the launch time of its
head. -/
theorem State.Guarded.keep (h : s.Guarded) (hstate : t.txf.state = s.txf.state) (hnow : t.time.now = s.time.now)
    (hqueue : ∀ u e rest, (s.txQueue u).entries = e :: rest → (t.txQueue u).config = (s.txQueue u).config ∧
      ∃ d more, (t.txQueue u).entries = d :: more ∧ d.launch = e.launch) : t.Guarded := by
  intro u armed setBack hu
  obtain ⟨e, rest, hentries, hahead⟩ := h u armed setBack (hstate ▸ hu)
  obtain ⟨hconfig, d, more, hmore, hlaunch⟩ := hqueue u e rest hentries
  exact ⟨d, more, hmore, fun harmed => by rw [hconfig, hnow, TxEntry.releasedAt_congr hlaunch]; exact hahead harmed⟩

theorem State.Guarded.keep_of_frame (h : s.Guarded) (hstate : t.txf.state = s.txf.state)
    (hnow : t.time.now = s.time.now) (htxq : t.txq = s.txq) : t.Guarded :=
  h.keep hstate hnow fun u e rest hentries => by
    rw [State.txQueue_congr htxq]
    exact ⟨rfl, e, rest, hentries, rfl⟩

theorem State.Guarded.set (h : s.Guarded) (u : TxQueueId) {y : TxQueue}
    (hqueue : ∀ e rest, (s.txQueue u).entries = e :: rest → y.config = (s.txQueue u).config ∧
      ∃ d more, y.entries = d :: more ∧ d.launch = e.launch) : (s.setTxQueue u y).Guarded := by
  refine h.keep rfl rfl fun v e rest hentries => ?_
  rw [State.txQueue_setTxQueue]
  split
  next heq => exact heq ▸ hqueue e rest (heq ▸ hentries)
  next => exact ⟨rfl, e, rest, hentries, rfl⟩

/-- An entry that is not in flight leaves. -/
theorem State.Guarded.erased (h : s.Guarded) {u : TxQueueId} {place : Nat} (hstate : t.txf.state = s.txf.state)
    (htime : t.time = s.time) (hqueue : ∀ v, t.txQueue v =
      if v = u then { s.txQueue u with entries := (s.txQueue u).entries.eraseIdx place } else s.txQueue v)
    (hplace : ∀ armed setBack, s.txf.state.guards = some (u, armed, setBack) → place ≠ 0) : t.Guarded := by
  intro v armed setBack hv
  rw [hstate] at hv
  obtain ⟨e, rest, hentries, hahead⟩ := h v armed setBack hv
  rw [htime, hqueue]
  split
  next heq =>
    subst heq
    obtain ⟨n, rfl⟩ := Nat.exists_eq_succ_of_ne_zero (hplace armed setBack hv)
    exact ⟨e, rest.eraseIdx n, by rw [hentries]; rfl, hahead⟩
  next => exact ⟨e, rest, hentries, hahead⟩

/-- A head that enters WAITING_LINE has not passed its deadline (R133). -/
theorem State.enterWaiting_guarded (u : TxQueueId) : (s.enterWaiting u).Guarded := by
  cases hentries : (s.txQueue u).entries with
  | nil =>
    refine State.guarded_of_idle ?_
    simp only [State.enterWaiting, hentries]
    rfl
  | cons e rest =>
    cases hlate : e.armsDeadline (s.txQueue u).config && e.lateAt (s.txQueue u).config s.time.now with
    | true =>
      rw [State.enterWaiting_of_late hentries hlate]
      exact State.guarded_of_idle (by simp)
    | false =>
      rw [State.enterWaiting_of_waits hentries hlate]
      intro v armed setBack hv
      cases hv
      refine ⟨e, rest, hentries, fun harmed => ?_⟩
      have hahead : e.lateAt (s.txQueue u).config s.time.now = false := by simpa [harmed] using hlate
      exact (e.releasedAt_false _ _).trans hahead

theorem State.Guarded.afterTransmit (h : s.Guarded) : s.afterTransmit.Guarded := by
  refine s.completeTxFlush.select_preserves (P := State.Guarded) (fun _ u _ _ => State.enterWaiting_guarded u) ?_
  refine h.keep (by simp) (by simp) fun u e rest hentries => ?_
  obtain ⟨flush, hqueue⟩ := s.completeTxFlush_txQueue u
  rw [hqueue]
  exact ⟨rfl, e, rest, hentries, rfl⟩

/-! ### A change of link time at the deadline (R137; log 9) -/

section

variable {u : TxQueueId} {setBack : Bool} {d : LinkTime} (hwaiting : s.txf.state = .waitingLine u true setBack)
  (hdeadline : (s.txQueue u).entries.head?.bind (·.deadline (s.txQueue u).config) = some d)
include hwaiting hdeadline

theorem State.deadlineChange_of_passed (hpassed : d.passedBy old new = true) :
    s.deadlineChange old new = s.finishEntry u .lateDropped := by
  simp only [State.deadlineChange, hwaiting, hdeadline, hpassed, if_true]

theorem State.deadlineChange_of_released (hnot : d.passedBy old new = false)
    (hreleased : d.releasedBy old new setBack = true) :
    s.deadlineChange old new = s.setTxFramer (.waitingLine u false false) := by
  simp only [State.deadlineChange, hwaiting, hdeadline, hnot, hreleased, if_true, Bool.false_eq_true, if_false]
  rfl

end

/-- A change that answers no armed deadline. -/
theorem State.deadlineChange_of_ahead (hahead : ∀ u setBack d, s.txf.state = .waitingLine u true setBack →
    (s.txQueue u).entries.head?.bind (·.deadline (s.txQueue u).config) = some d →
      d.releasedBy old new setBack = false) : s.deadlineChange old new = s := by
  obtain heq | ⟨u, setBack, d, hwaiting, hdeadline, ⟨hpassed, -⟩ | ⟨-, hreleased, -⟩⟩ := s.deadlineChange_cases old new
  · exact heq
  · have hkept := hahead u setBack d hwaiting hdeadline
    rw [LinkTime.releasedBy, hpassed] at hkept
    cases hkept
  · rw [hahead u setBack d hwaiting hdeadline] at hreleased
    cases hreleased

/-- What the framer guards, seen from a change of link time: a deadline that the change does not release is ahead of the
new time. -/
def State.GuardedAcross (old new : LinkTime) (b : State) : Prop :=
  ∀ u armed setBack, b.txf.state.guards = some (u, armed, setBack) →
    ∃ e rest, (b.txQueue u).entries = e :: rest ∧ (armed = true → ∀ d, e.deadline (b.txQueue u).config = some d →
      d.releasedBy old new setBack = false → d.releasedAt new setBack = false)

theorem TxEntry.timeChange_launch (old new : LinkTime) (e : TxEntry) : (e.timeChange old new).launch = e.launch :=
  congrArg Prod.fst (e.timeChange_orderKey old new)

/-- A change of link time answers the deadline it releases and leaves the others ahead (R137). -/
theorem State.GuardedAcross.timeChange {b : State} (h : b.GuardedAcross old new) (hnow : b.time.now = new) :
    (b.timeChange old new).Guarded := by
  rw [State.timeChange_eq]
  refine State.Guarded.afterTransmit ?_
  have hwatched (u : TxQueueId) (armed setBack : Bool) (hu : b.txf.state.guards = some (u, armed, setBack)) :
      ∃ e rest, ((b.watched old new).txQueue u).entries = e :: rest ∧ (armed = true → ∀ d,
        e.deadline ((b.watched old new).txQueue u).config = some d →
          d.releasedBy old new setBack = false → d.releasedAt new setBack = false) := by
    obtain ⟨e, rest, hentries, hahead⟩ := h u armed setBack hu
    rw [State.watched_txQueue]
    refine ⟨e.timeChange old new, rest.map (TxEntry.timeChange old new), ?_, fun harmed d hd => hahead harmed d ?_⟩
    · rw [TxQueue.timeChange, hentries, List.map_cons]
    · rwa [TxEntry.deadline, TxEntry.timeChange_launch] at hd
  obtain heq | ⟨u, setBack, d, hstate, -, ⟨-, heq⟩ | ⟨-, -, heq⟩⟩ := (b.watched old new).deadlineChange_cases old new
  · rw [heq]
    intro u armed setBack hu
    obtain ⟨e, rest, hentries, hahead⟩ := hwatched u armed setBack hu
    refine ⟨e, rest, hentries, fun harmed => ?_⟩
    change e.releasedAt _ b.time.now setBack = false
    subst harmed
    have hstate := TxFramerState.eq_of_guards_armed hu
    cases hd : e.deadline ((b.watched old new).txQueue u).config with
    | none => simp only [TxEntry.releasedAt, hd]
    | some d =>
      simp only [TxEntry.releasedAt, hd, hnow]
      refine hahead rfl d hd (Bool.eq_false_iff.mpr fun hreleased => ?_)
      have hhead : ((b.watched old new).txQueue u).entries.head?.bind
          (·.deadline ((b.watched old new).txQueue u).config) = some d := by
        rw [hentries]; exact hd
      have hchanged : ((b.watched old new).deadlineChange old new).txf ≠ (b.watched old new).txf := by
        cases hpassed : d.passedBy old new with
        | true =>
          rw [State.deadlineChange_of_passed hstate hhead hpassed]
          simp only [State.finishEntry_frame]
          exact fun h => by rw [← h] at hstate; cases hstate
        | false =>
          rw [State.deadlineChange_of_released hstate hhead hpassed hreleased]
          simp only [State.setTxFramer_txf]
          exact fun h => by rw [← h] at hstate; cases hstate
      exact hchanged (by rw [heq])
  · rw [heq]
    exact State.guarded_of_idle (by simp)
  · rw [heq]
    intro v armed noted hv
    cases hv
    obtain ⟨e, rest, hentries, -⟩ := hwatched u true setBack (congrArg TxFramerState.guards hstate)
    exact ⟨e, rest, hentries, nofun⟩

/-- Across a change that was not announced as a backward set, a guarded state is guarded. -/
theorem State.Guarded.across (h : s.Guarded) (hstate : t.txf.state = s.txf.state) (htxq : t.txq = s.txq) :
    t.GuardedAcross s.time.now new := by
  intro u armed setBack hu
  obtain ⟨e, rest, hentries, hahead⟩ := h u armed setBack (hstate ▸ hu)
  rw [State.txQueue_congr htxq]
  refine ⟨e, rest, hentries, fun harmed d hd hkept => ?_⟩
  have hbefore : d.releasedAt s.time.now setBack = false := by
    simpa only [TxEntry.releasedAt, hd] using hahead harmed
  rw [← Bool.not_eq_true, LinkTime.releasedAt_iff] at hbefore ⊢
  rw [← Bool.not_eq_true, LinkTime.releasedBy_iff, LinkTime.passedBy_iff] at hkept
  have hmax := LinkTime.val_le_last new
  rintro (hpassed | ⟨hback, rfl, hreached⟩)
  · omega
  · simp only [hback, true_and] at hbefore hkept
    omega

/-- A backward set that the deadline watcher notes leaves every deadline that was ahead ahead (log 9). -/
theorem State.Guarded.across_setBack (h : s.Guarded) {v : BitVec 32} (hback : s.time.now.before ⟨v, 0⟩ = false)
    (hstate : t.txf.state = s.txf.state.noteSetBack) (htxq : t.txq = s.txq) :
    t.GuardedAcross s.time.now ⟨v, 0⟩ := by
  intro u armed setBack hu
  rw [hstate] at hu
  obtain ⟨noted, hguards⟩ : ∃ noted, s.txf.state.guards = some (u, armed, noted) := by
    cases hframer : s.txf.state with
    | idle => rw [hframer] at hu; cases hu
    | waitingLine w on noted =>
      rw [hframer] at hu
      cases on <;> cases hu <;> exact ⟨_, rfl⟩
    | sending a => rw [hframer] at hu; cases hu; exact ⟨false, rfl⟩
  obtain ⟨e, rest, hentries, hahead⟩ := h u armed noted hguards
  rw [State.txQueue_congr htxq]
  refine ⟨e, rest, hentries, fun harmed d hd _ => ?_⟩
  have hbefore : d.releasedAt s.time.now noted = false := by
    simpa only [TxEntry.releasedAt, hd] using hahead harmed
  rw [LinkTime.before_eq_false_iff] at hback
  rw [← Bool.not_eq_true, LinkTime.releasedAt_iff] at hbefore ⊢
  have hcoarse := v.isLt
  have hnew : (⟨v, 0⟩ : LinkTime).val < LinkTime.last.val := by
    rw [LinkTime.last_val]
    have hzero : (0 : BitVec 12).toNat = 0 := rfl
    simp only [LinkTime.val]
    omega
  rintro (hpassed | ⟨-, rfl, hreached⟩)
  · omega
  · omega

/-! ### The moves -/

theorem State.fewerEntries_deadlineChange (old new : LinkTime) : s.FewerEntries (s.deadlineChange old new) := by
  obtain heq | ⟨u, _, _, _, _, ⟨_, heq⟩ | ⟨_, _, heq⟩⟩ := s.deadlineChange_cases old new <;> rw [heq]
  · exact State.fewerEntries_of_frame rfl rfl
  · exact State.fewerEntries_finishEntry u _
  · exact State.fewerEntries_of_frame rfl rfl

theorem State.LaunchesAhead.timeChange (h : s.LaunchesAhead) {b : State} (hnow : b.time.now = new)
    (htxq : b.txq = s.txq) : (b.timeChange s.time.now new).LaunchesAhead := by
  rw [State.timeChange_eq]
  refine ((State.fewerEntries_deadlineChange _ _).launchesAhead ?_).afterTransmit
  exact State.watched_launchesAhead hnow fun u => by rw [State.txQueue_congr htxq]; exact h u

/-- An entry submitted is due, or its launch time lies ahead (R131). -/
theorem StagingRecord.toEntry_ahead (r : StagingRecord) {T : LinkTime} (hlaunch : (r.toEntry now).launch = some T)
    (hdue : (r.toEntry now).due = false) : now.before T = true := by
  have hlaunch' : r.launch = some T := hlaunch
  simpa [StagingRecord.toEntry, hlaunch', LinkTime.reachedAt] using hdue

theorem TxEntry.accepted_frame (e : TxEntry) (position : Nat) (st : Stamp) :
    (e.accepted position st).launch = e.launch ∧ (e.accepted position st).due = e.due ∧
      (e.accepted position st).length = e.length := by
  unfold TxEntry.accepted
  split <;> exact ⟨rfl, rfl, rfl⟩

theorem State.Moves.launchesAhead (h : s.Moves t) (hs : s.LaunchesAhead) : t.LaunchesAhead := by
  have hframe {x : State} (htime : x.time.now = s.time.now) (htxq : x.txq = s.txq) : x.LaunchesAhead :=
    (State.fewerEntries_of_frame htime htxq).launchesAhead hs
  cases h
  -- moves that leave the transmit queues and link time
  case writeTime hwritten => cases hwritten <;> exact hs
  case popReport | adjustRx | openWindow | closeWindow | release => exact hs
  case startByte | otherByte | lineRxOff | startRxFlush | rxFlushRemoval | releaseWindow | beginStaging | abandon |
    lineTxOff => exact hframe (by simp) (by simp)
  case softResetRxRemoval => exact (hframe (by simp) (by simp)).afterTransmit
  case lineTxOn => exact (hframe (x := { s with txf := { s.txf with lineTx := true } }) rfl rfl).afterTransmit
  case hardwareReset =>
    intro u e he
    rw [State.hardwareReset_txQueue] at he
    cases he
  -- link time
  case boundary =>
    obtain ⟨b, heq, htime, _, htxq, _⟩ := s.takeBoundary_before
    exact heq ▸ hs.timeChange (by rw [htime]) htxq
  case countingEdge =>
    obtain ⟨b, heq, htime, _, htxq, _⟩ := s.takeCountingEdge_before
    exact heq ▸ hs.timeChange (by rw [htime]) htxq
  -- moves of one transmit queue
  case submit r _ _ _ _ =>
    refine State.LaunchesAhead.afterTransmit ?_
    refine (State.fewerEntries_of_frame (s := s.setTxQueue r.queue _) rfl rfl).launchesAhead (hs.set r.queue ?_)
    intro e he T hT hdue
    obtain he | he := List.mem_append.mp he
    · exact hs r.queue e he T hT hdue
    · rw [List.mem_singleton.mp he] at hT hdue
      exact r.toEntry_ahead hT hdue
  case configureTx u g _ _ => exact hs.set u (hs u)
  case pauseTx u => exact hs.set u (hs u)
  case startTx u => exact State.LaunchesAhead.afterTransmit (hs.set u (hs u))
  case startTxFlush u _ =>
    have hflagged : (s.setTxQueue u { s.txQueue u with flush := true }).LaunchesAhead := hs.set u (hs u)
    refine State.FewerEntries.launchesAhead ⟨by simp, fun v => ?_⟩ hflagged
    obtain ⟨flush, hqueue⟩ :=
      ((s.setTxQueue u { s.txQueue u with flush := true }).startLong (.txFlush u)).completeTxFlush_txQueue v
    rw [hqueue]
    exact List.Subset.refl _
  case withdraw u place r _ _ => exact ((State.fewerEntries_withdrawEntry u place r).launchesAhead hs).afterTransmit
  case launch u place e _ =>
    refine State.LaunchesAhead.afterTransmit (hs.set u ?_)
    intro d hd T hT hdue
    obtain hd | rfl := List.mem_or_eq_of_mem_set hd
    · exact hs u d hd T hT hdue
    · cases hdue
  -- the framer
  case expire u _ _ => exact ((State.fewerEntries_finishEntry u _).launchesAhead hs).afterTransmit
  case beginAttempt u _ _ e rest _ hentries =>
    refine State.LaunchesAhead.afterTransmit ?_
    exact (State.fewerEntries_of_frame (s := s.setHead u _) rfl rfl).launchesAhead (hs.setHead hentries rfl rfl)
  case endCut a _ _ =>
    refine State.LaunchesAhead.afterTransmit ?_
    refine ((State.fewerEntries_removeEntry a.queue 0).trans (State.fewerEntries_of_frame ?_ ?_)).launchesAhead hs <;>
    simp [State.endCut]
  case acceptByte a e rest _ _ hentries =>
    obtain ⟨hlaunch, hdue, -⟩ := e.accepted_frame a.position s.time.stamp
    have hheld : (s.setHead a.queue (e.accepted a.position s.time.stamp)).LaunchesAhead :=
      hs.setHead hentries hlaunch hdue
    unfold State.acceptByte
    dsimp only
    split
    · exact hheld
    · refine State.LaunchesAhead.afterTransmit ?_
      exact ((State.fewerEntries_of_frame rfl rfl).trans (State.fewerEntries_finishEntry a.queue _)).launchesAhead hheld
  case retry a _ _ _ _ _ _ =>
    unfold State.retryEntry
    split
    · exact ((State.fewerEntries_enterWaiting a.queue).launchesAhead hs).afterTransmit
    · exact (hframe (x := s.setTxFramer .idle) rfl rfl).afterTransmit
  case abort a _ _ => exact ((State.fewerEntries_finishEntry a.queue _).launchesAhead hs).afterTransmit
  -- SOFT_RESET
  case acceptSoftReset =>
    have hblocks : s.FewerEntries s.softResetBlocks := ⟨by simp, fun u => by simp⟩
    have htransmit (x : State) : x.FewerEntries x.softResetTransmit := by
      unfold State.softResetTransmit
      split
      · exact State.fewerEntries_of_frame rfl rfl
      next u _ _ _ => exact (State.fewerEntries_removeEntry u 0).trans (State.fewerEntries_of_frame rfl rfl)
      · exact State.fewerEntries_of_frame rfl rfl
    rw [State.acceptSoftReset_eq]
    refine ((hblocks.trans (htransmit _)).trans (State.fewerEntries_of_frame ?_ ?_)).launchesAhead hs |>.afterTransmit <;>
    simp [State.clearReports]
  case softResetTxRemoval u _ _ =>
    refine State.LaunchesAhead.afterTransmit ?_
    exact ((State.fewerEntries_discardOldest u).trans (State.fewerEntries_of_frame (by simp) (by simp))).launchesAhead hs

theorem State.Guarded.withdrawEntry (h : s.Guarded) (u : TxQueueId) (place : Nat) (r : ReportResult)
    (hplace : s.headSending u = true → place ≠ 0) : (s.withdrawEntry u place r).Guarded := by
  unfold State.withdrawEntry
  dsimp only
  split
  next => exact State.guarded_of_idle rfl
  next hnot =>
    refine h.erased (by simp) (by simp) (fun v => s.leaveWithReport_txQueue u v place r) fun armed setBack hu => ?_
    cases hstate : s.txf.state with
    | idle => rw [hstate] at hu; cases hu
    | waitingLine v on noted =>
      rw [hstate] at hu
      cases hu
      simpa [State.headWaiting, hstate] using hnot
    | sending a =>
      rw [hstate] at hu
      cases hu
      exact hplace (by simp [State.headSending, hstate])

theorem State.Guarded.discardOldest (h : s.Guarded) (u : TxQueueId) : (s.discardOldest u).Guarded := by
  unfold State.discardOldest
  dsimp only
  split
  next => exact State.guarded_of_idle rfl
  next hnot =>
    refine h.erased (by simp) (by simp) (fun v => s.removeEntry_txQueue u v _) fun armed setBack hu => ?_
    cases hstate : s.txf.state with
    | idle => rw [hstate] at hu; cases hu
    | waitingLine v on noted =>
      rw [hstate] at hu
      cases hu
      simp [State.headWaiting, hstate] at hnot
    | sending a =>
      rw [hstate] at hu
      cases hu
      simp [State.oldestNotSending, State.headSending, hstate]

/-- A head that is rewritten with its launch time stays a head. -/
theorem State.Guarded.setHead (h : s.Guarded) {u : TxQueueId} {e d : TxEntry} {rest : List TxEntry}
    (hentries : (s.txQueue u).entries = e :: rest) (hlaunch : d.launch = e.launch) : (s.setHead u d).Guarded := by
  refine h.set u fun c more hc => ⟨rfl, d, _, rfl, ?_⟩
  rw [hentries] at hc
  cases hc
  exact hlaunch

theorem State.Guarded.softResetTransmit (h : s.Guarded) : s.softResetTransmit.Guarded := by
  unfold State.softResetTransmit
  split
  next => exact h
  next => exact State.guarded_of_idle rfl
  next a hsending =>
    obtain ⟨e, rest, hentries, -⟩ := h a.queue false false (by rw [hsending]; rfl)
    exact State.guarded_of_sending rfl hentries

theorem State.Moves.guarded (h : s.Moves t) (hs : s.Guarded) : t.Guarded := by
  have hframe {x : State} (hstate : x.txf.state = s.txf.state) (hnow : x.time.now = s.time.now) (htxq : x.txq = s.txq) :
      x.Guarded := hs.keep_of_frame hstate hnow htxq
  have hsame {u : TxQueueId} {y : TxQueue} (hconfig : y.config = (s.txQueue u).config)
      (hentries : y.entries = (s.txQueue u).entries) : (s.setTxQueue u y).Guarded :=
    hs.set u fun e rest he => ⟨hconfig, e, rest, hentries.trans he, rfl⟩
  cases h
  -- moves that leave the transmit side and link time
  case writeTime hwritten => cases hwritten <;> exact hs
  case popReport | adjustRx | openWindow | closeWindow => exact hs
  case startByte | otherByte | lineRxOff | startRxFlush | rxFlushRemoval | releaseWindow | beginStaging | abandon =>
    exact hframe (by simp) (by simp) (by simp)
  case softResetRxRemoval => exact (hframe (by simp) (by simp) (by simp)).afterTransmit
  case lineTxOn => exact (hframe (x := { s with txf := { s.txf with lineTx := true } }) rfl rfl rfl).afterTransmit
  -- moves that leave the framer IDLE, or waiting after a retry
  case hardwareReset => exact State.guarded_of_idle rfl
  case expire | abort => exact (State.guarded_of_idle (by simp)).afterTransmit
  case endCut => exact (State.guarded_of_idle (by simp [State.endCut])).afterTransmit
  case retry a _ _ _ _ _ _ =>
    unfold State.retryEntry
    split
    · exact (State.enterWaiting_guarded a.queue).afterTransmit
    · exact (State.guarded_of_idle rfl).afterTransmit
  case lineTxOff =>
    unfold State.lineTxOff
    dsimp only
    split
    · exact State.guarded_of_idle rfl
    · exact hframe rfl rfl rfl
  case release u setBack hwaiting =>
    intro v armed noted hv
    cases hv
    obtain ⟨e, rest, hentries, -⟩ := hs u true setBack (by rw [hwaiting]; rfl)
    exact ⟨e, rest, hentries, nofun⟩
  -- link time
  case boundary =>
    obtain ⟨b, heq, htime, _, htxq, _, _, htxf, _⟩ := s.takeBoundary_before
    rw [heq]
    refine State.GuardedAcross.timeChange ?_ (by rw [htime])
    unfold State.noteBoundary at htxf
    split at htxf
    next hback =>
      cases hset : s.time.pendingSet with
      | none => simp [TimeBase.setsBack, hset] at hback
      | some v =>
        have hnew : s.time.boundary.now = ⟨v, 0⟩ := by simp [TimeBase.boundary, hset]
        rw [hnew]
        exact hs.across_setBack (by simpa [TimeBase.setsBack, hset] using hback) (by rw [htxf]; rfl) htxq
    next => exact hs.across (by rw [htxf]) htxq
  case countingEdge =>
    obtain ⟨b, heq, htime, _, htxq, _, _, htxf, _⟩ := s.takeCountingEdge_before
    rw [heq]
    exact State.GuardedAcross.timeChange (hs.across (by rw [htxf]) htxq) (by rw [htime])
  -- moves of one transmit queue
  case submit r _ _ _ _ =>
    refine State.Guarded.afterTransmit ?_
    refine State.Guarded.keep_of_frame (s := s.setTxQueue r.queue _) ?_ rfl rfl rfl
    refine hs.set r.queue fun e rest he => ⟨rfl, e, rest ++ [r.toEntry s.time.now], ?_, rfl⟩
    rw [he]; rfl
  case configureTx u g hempty _ => exact hs.set u fun e rest he => by rw [hempty] at he; cases he
  case pauseTx => exact hsame rfl rfl
  case startTx => exact State.Guarded.afterTransmit (hsame rfl rfl)
  case startTxFlush u _ =>
    have hflagged : (s.setTxQueue u { s.txQueue u with flush := true }).Guarded := hsame rfl rfl
    refine hflagged.keep (by simp) (by simp) fun v e rest he => ?_
    obtain ⟨flush, hqueue⟩ :=
      ((s.setTxQueue u { s.txQueue u with flush := true }).startLong (.txFlush u)).completeTxFlush_txQueue v
    rw [hqueue]
    exact ⟨rfl, e, rest, he, rfl⟩
  case withdraw u place r _ hplace => exact (hs.withdrawEntry u place r hplace).afterTransmit
  case launch u place d hplace =>
    refine State.Guarded.afterTransmit (hs.set u fun e rest he => ⟨rfl, ?_⟩)
    rw [he] at hplace ⊢
    cases place with
    | zero =>
      obtain rfl : e = d := by simpa using hplace
      exact ⟨_, rest, rfl, rfl⟩
    | succ n => exact ⟨e, _, rfl, rfl⟩
  -- the framer
  case beginAttempt u _ _ e rest _ hentries =>
    refine State.Guarded.afterTransmit (State.guarded_of_sending (e := { e with
      attempts := e.attempts + 1, sequenceUsed := some (e.sequenceUsed.getD (s.txSequenceOf e.channel)) })
      (rest := rest) rfl ?_)
    change ((s.setTxQueue u _).txQueue u).entries = _
    rw [State.txQueue_setTxQueue, if_pos rfl, hentries]
    rfl
  case acceptByte a e rest hsending _ hentries =>
    obtain ⟨hlaunch, -⟩ := e.accepted_frame a.position s.time.stamp
    have hheld := hs.setHead hentries hlaunch
    unfold State.acceptByte
    dsimp only
    split
    · obtain ⟨d, more, hmore, -⟩ := hheld a.queue false false (by
        change s.txf.state.guards = _
        rw [hsending]; rfl)
      exact State.guarded_of_sending rfl hmore
    · exact (State.guarded_of_idle (by simp [State.completeEntry])).afterTransmit
  -- SOFT_RESET
  case acceptSoftReset =>
    rw [State.acceptSoftReset_eq]
    have hblocks : s.softResetBlocks.Guarded := hs.keep (by simp) (by simp) fun u e rest he => by
      rw [State.softResetBlocks_txQueue]
      exact ⟨rfl, e, rest, he, rfl⟩
    exact (hblocks.softResetTransmit.keep_of_frame (by simp [State.clearReports]) (by simp [State.clearReports])
      (by simp [State.clearReports])).afterTransmit
  case softResetTxRemoval u _ _ =>
    exact ((hs.discardOldest u).keep_of_frame (by simp) (by simp) (by simp)).afterTransmit

/-- Settles O58: every receive queue, every entry and the framer keep their watchers ahead of link time. -/
theorem everyStepLeavesNoWatcherBehind : Obligations.EveryStepLeavesNoWatcherBehind := by
  intro s t hhead ⟨hstart, hstop, hlaunch, hdeadline⟩ hstep
  have hkept := step_keeps (P := fun s => (∀ q, (s.rxQueue q).Ahead s.time.now) ∧ s.LaunchesAhead ∧ s.Guarded)
    (fun s t halike ⟨hrx, htx, hguard⟩ => ⟨fun q => ?_, ?_, ?_⟩)
    (fun s t hmoves ⟨hrx, htx, hguard⟩ => ⟨fun q => hmoves.keeps_rxQueue RxQueue.ahead_invariant q (hrx q),
      hmoves.launchesAhead htx, hmoves.guarded hguard⟩) hstep
    ⟨fun q => ⟨hstart q, hstop q⟩, hlaunch, State.guarded_iff.mpr ⟨hhead, hdeadline⟩⟩
  · obtain ⟨hrx, htx, hguard⟩ := hkept
    obtain ⟨hthead, htdeadline⟩ := State.guarded_iff.mp hguard
    exact ⟨hthead, fun q => (hrx q).start, fun q => (hrx q).stop, htx, htdeadline⟩
  · rw [halike.time, State.rxQueue_congr halike.rxq]
    exact hrx q
  · exact (State.fewerEntries_of_frame (by rw [halike.time]) halike.txq).launchesAhead htx
  · exact hguard.keep_of_frame (by rw [halike.txf]) (by rw [halike.time]) halike.txq

end Sys2Proof.Machine
end

section
/-! Proofs about the pool: cells and descriptors are conserved (R18). The payload of a filling record stays within its
reservation (R42), and every event moves cells between the pool and its holders. -/

namespace Sys2Proof.Machine

variable {s t : State}

/-! ### The pool and every holder beside the filling record -/

/-- Cells of the committed records. -/
def State.recordCells (s : State) : Nat := ∑ q, (s.rxQueue q).cellCount

/-- Descriptors of the committed records. -/
def State.recordDescs (s : State) : Nat := ∑ q, (s.rxQueue q).recordCount

/-- Cells of the transmit entries. -/
def State.entryCells (s : State) : Nat := ∑ u, (s.txQueue u).cellCount

/-- Descriptors of the transmit entries. -/
def State.entryDescs (s : State) : Nat := ∑ u, (s.txQueue u).entries.length

/-- Cells of the staging record. -/
def State.stagedCells (s : State) : Nat := (s.staging.record.map StagingRecord.cells).getD 0

/-- The descriptor of the staging record. -/
def State.stagedDescs (s : State) : Nat := if s.staging.record.isSome then 1 else 0

/-- The free cells and those of every holder but the filling record. -/
def State.besideCells (s : State) : Nat := s.pool.freeCells + s.recordCells + s.stagedCells + s.entryCells

/-- The free descriptors and those of every holder but the filling record. -/
def State.besideDescs (s : State) : Nat := s.pool.freeDescs + s.recordDescs + s.stagedDescs + s.entryDescs

theorem State.poolConserved_iff : s.PoolConserved ↔
    s.besideCells + s.fillingCells.getD 0 = 1024 ∧
      s.besideDescs + (if s.fillingCells.isSome then 1 else 0) = 512 := by
  have hrecordCells : (s.rxq.toList.map RxQueue.cellCount).sum = s.recordCells := sum_toList_map _ _
  have hrecordDescs : (s.rxq.toList.map RxQueue.recordCount).sum = s.recordDescs := sum_toList_map _ _
  have hentryCells : (s.txq.toList.map TxQueue.cellCount).sum = s.entryCells := sum_toList_map _ _
  have hentryDescs : s.entryTotal = s.entryDescs := s.entryTotal_eq
  unfold State.PoolConserved State.heldCells State.heldDescs State.besideCells State.besideDescs State.stagedCells
    State.stagedDescs
  rw [hrecordCells, hrecordDescs, hentryCells, hentryDescs]
  constructor <;> rintro ⟨hcells, hdescs⟩ <;> constructor <;> omega

/-- From `s` to `t` the pool and the holders beside the filling record gain so many cells and descriptors. -/
def State.Gains (s : State) (cells descs : Nat) (t : State) : Prop :=
  t.besideCells = s.besideCells + cells ∧ t.besideDescs = s.besideDescs + descs

theorem State.Gains.refl (s : State) : s.Gains 0 0 s := ⟨(Nat.add_zero _).symm, (Nat.add_zero _).symm⟩

theorem State.Gains.trans {u : State} {a b c d : Nat} (h : s.Gains a b t) (k : t.Gains c d u) :
    s.Gains (a + c) (b + d) u :=
  ⟨by rw [k.1, h.1, Nat.add_assoc], by rw [k.2, h.2, Nat.add_assoc]⟩

theorem State.Gains.then {u : State} {a b : Nat} (h : s.Gains a b t) (k : t.Gains 0 0 u) : s.Gains a b u := h.trans k

/-- Of a change that leaves the records, the length staged and the lengths of the entries. -/
theorem State.gains_of_contents {cells descs : Nat} (hcells : t.pool.freeCells = s.pool.freeCells + cells)
    (hdescs : t.pool.freeDescs = s.pool.freeDescs + descs) (hrecords : ∀ q, (t.rxQueue q).records = (s.rxQueue q).records)
    (hstaging : t.staging.record.map (·.length) = s.staging.record.map (·.length))
    (hentries : ∀ u, (t.txQueue u).entries.map (·.length) = (s.txQueue u).entries.map (·.length)) :
    s.Gains cells descs t := by
  have hstaged (x : State) : x.staging.record.map StagingRecord.cells =
      (x.staging.record.map (·.length)).map fun n => cellsFor n.toNat := by
    rw [Option.map_map]; rfl
  have hopen (x : State) : x.staging.record.isSome = (x.staging.record.map (·.length)).isSome := by simp
  have hheld (x : TxQueue) : x.cellCount = ((x.entries.map (·.length)).map fun n => cellsFor n.toNat).sum := by
    rw [List.map_map]; rfl
  have hcount (x : TxQueue) : x.entries.length = (x.entries.map (·.length)).length := by simp
  have hrx : t.recordCells = s.recordCells ∧ t.recordDescs = s.recordDescs := by
    simp only [State.recordCells, State.recordDescs, RxQueue.cellCount, RxQueue.recordCount, hrecords, and_self]
  have htx : t.entryCells = s.entryCells ∧ t.entryDescs = s.entryDescs := by
    simp only [State.entryCells, State.entryDescs, hheld, hcount, hentries, and_self]
  have hst : t.stagedCells = s.stagedCells ∧ t.stagedDescs = s.stagedDescs := by
    simp only [State.stagedCells, State.stagedDescs, hstaged, hopen, hstaging, and_self]
  unfold State.Gains State.besideCells State.besideDescs
  omega

/-- Of a change that leaves the queues and the length staged. -/
theorem State.gains_of_pool {cells descs : Nat} (hcells : t.pool.freeCells = s.pool.freeCells + cells)
    (hdescs : t.pool.freeDescs = s.pool.freeDescs + descs)
    (hrxq : t.rxq = s.rxq) (hstaging : t.staging.record.map (·.length) = s.staging.record.map (·.length))
    (htxq : t.txq = s.txq) : s.Gains cells descs t :=
  State.gains_of_contents hcells hdescs (fun q => by rw [State.rxQueue_congr hrxq]) hstaging fun u => by
    rw [State.txQueue_congr htxq]

/-- Of a change that leaves the free counts too. -/
theorem State.gains_of_frame (hcells : t.pool.freeCells = s.pool.freeCells) (hdescs : t.pool.freeDescs = s.pool.freeDescs)
    (hrxq : t.rxq = s.rxq) (hstaging : t.staging.record.map (·.length) = s.staging.record.map (·.length))
    (htxq : t.txq = s.txq) : s.Gains 0 0 t := State.gains_of_pool hcells hdescs hrxq hstaging htxq

/-! ### Returns and reservations -/

theorem State.gains_returnHolder (n : Nat) : s.Gains n 1 (s.returnHolder n) := State.gains_of_pool rfl rfl rfl rfl rfl

theorem State.gains_returnCells (n : Nat) : s.Gains n 0 (s.returnCells n) := State.gains_of_pool rfl rfl rfl rfl rfl

/-- A reservation takes what it asks for, where that much is free (R21, R24). -/
theorem State.takeReservation_gains {n : Nat} (hcells : n ≤ s.pool.freeCells) (hdescs : 1 ≤ s.pool.freeDescs) :
    (s.takeReservation n).Gains n 1 s := by
  refine State.gains_of_pool ?_ ?_ (by simp) (by simp) (by simp) <;>
  · rw [State.takeReservation_pool]
    dsimp only
    omega

/-! ### One queue -/

theorem State.besides_setRxQueue (q : RxQueueId) (r : RxQueue) :
    (s.setRxQueue q r).besideCells + (s.rxQueue q).cellCount = s.besideCells + r.cellCount ∧
      (s.setRxQueue q r).besideDescs + (s.rxQueue q).recordCount = s.besideDescs + r.recordCount := by
  have hrest (v : RxQueueId) (hv : v ≠ q) : (s.setRxQueue q r).rxQueue v = s.rxQueue v := by
    rw [State.rxQueue_setRxQueue, if_neg hv]
  have hqueue : (s.setRxQueue q r).rxQueue q = r := by rw [State.rxQueue_setRxQueue, if_pos rfl]
  have hsumCells : (s.setRxQueue q r).recordCells + (s.rxQueue q).cellCount = s.recordCells + r.cellCount := by
    have hother := sum_add_eq_of_other (f := fun v => (s.rxQueue v).cellCount)
      (g := fun v => ((s.setRxQueue q r).rxQueue v).cellCount) q fun v hv => by rw [hrest v hv]
    rwa [hqueue] at hother
  have hsumDescs : (s.setRxQueue q r).recordDescs + (s.rxQueue q).recordCount = s.recordDescs + r.recordCount := by
    have hother := sum_add_eq_of_other (f := fun v => (s.rxQueue v).recordCount)
      (g := fun v => ((s.setRxQueue q r).rxQueue v).recordCount) q fun v hv => by rw [hrest v hv]
    rwa [hqueue] at hother
  have hframe : (s.setRxQueue q r).stagedCells = s.stagedCells ∧ (s.setRxQueue q r).stagedDescs = s.stagedDescs ∧
      (s.setRxQueue q r).entryCells = s.entryCells ∧ (s.setRxQueue q r).entryDescs = s.entryDescs := ⟨rfl, rfl, rfl, rfl⟩
  unfold State.besideCells State.besideDescs
  rw [State.setRxQueue_pool]
  omega

theorem State.besides_setTxQueue (u : TxQueueId) (x : TxQueue) :
    (s.setTxQueue u x).besideCells + (s.txQueue u).cellCount = s.besideCells + x.cellCount ∧
      (s.setTxQueue u x).besideDescs + (s.txQueue u).entries.length = s.besideDescs + x.entries.length := by
  have hrest (v : TxQueueId) (hv : v ≠ u) : (s.setTxQueue u x).txQueue v = s.txQueue v := by
    rw [State.txQueue_setTxQueue, if_neg hv]
  have hqueue : (s.setTxQueue u x).txQueue u = x := by rw [State.txQueue_setTxQueue, if_pos rfl]
  have hsumCells : (s.setTxQueue u x).entryCells + (s.txQueue u).cellCount = s.entryCells + x.cellCount := by
    have hother := sum_add_eq_of_other (f := fun v => (s.txQueue v).cellCount)
      (g := fun v => ((s.setTxQueue u x).txQueue v).cellCount) u fun v hv => by rw [hrest v hv]
    rwa [hqueue] at hother
  have hsumDescs : (s.setTxQueue u x).entryDescs + (s.txQueue u).entries.length = s.entryDescs + x.entries.length := by
    have hother := sum_add_eq_of_other (f := fun v => (s.txQueue v).entries.length)
      (g := fun v => ((s.setTxQueue u x).txQueue v).entries.length) u fun v hv => by rw [hrest v hv]
    rwa [hqueue] at hother
  have hframe : (s.setTxQueue u x).stagedCells = s.stagedCells ∧ (s.setTxQueue u x).stagedDescs = s.stagedDescs ∧
      (s.setTxQueue u x).recordCells = s.recordCells ∧ (s.setTxQueue u x).recordDescs = s.recordDescs :=
    ⟨rfl, rfl, rfl, rfl⟩
  unfold State.besideCells State.besideDescs
  rw [State.setTxQueue_pool]
  omega

/-- A receive queue that keeps its records holds what it held. -/
theorem State.gains_setRxQueue (q : RxQueueId) {r : RxQueue} (hrecords : r.records = (s.rxQueue q).records) :
    s.Gains 0 0 (s.setRxQueue q r) := by
  refine State.gains_of_contents rfl rfl (fun v => ?_) rfl fun _ => rfl
  rw [State.rxQueue_setRxQueue]
  split
  next heq => rw [heq, hrecords]
  next => rfl

/-- A transmit queue whose entries keep their lengths holds what it held. -/
theorem State.gains_setTxQueue (u : TxQueueId) {x : TxQueue}
    (hentries : x.entries.map (·.length) = (s.txQueue u).entries.map (·.length)) :
    s.Gains 0 0 (s.setTxQueue u x) := by
  refine State.gains_of_contents rfl rfl (fun _ => rfl) rfl fun v => ?_
  rw [State.txQueue_setTxQueue]
  split
  next heq => rw [heq, hentries]
  next => rfl

/-- A record that leaves gives back what it held (R26). -/
theorem State.gains_removeHeadRecord (q : RxQueueId) : s.Gains 0 0 (s.removeHeadRecord q) := by
  cases hrecords : (s.rxQueue q).records with
  | nil =>
    have hsame : s.removeHeadRecord q = s := by simp only [State.removeHeadRecord, hrecords]
    exact hsame.symm ▸ .refl s
  | cons rec rest =>
    rw [State.removeHeadRecord_of_cons hrecords]
    obtain ⟨hrcells, hrdescs⟩ :=
      State.gains_returnHolder (s := s.setRxQueue q { s.rxQueue q with records := rest }) rec.cells
    obtain ⟨hcells, hdescs⟩ := State.besides_setRxQueue (s := s) q { s.rxQueue q with records := rest }
    have hheld : (s.rxQueue q).cellCount =
        rec.cells + ({ s.rxQueue q with records := rest } : RxQueue).cellCount := by
      simp [RxQueue.cellCount, hrecords]
    have hcount : (s.rxQueue q).recordCount =
        ({ s.rxQueue q with records := rest } : RxQueue).recordCount + 1 := by simp [RxQueue.recordCount, hrecords]
    constructor <;> omega

/-- An entry that leaves gives back what it held (R27). -/
theorem State.gains_removeEntry (u : TxQueueId) (place : Nat) : s.Gains 0 0 (s.removeEntry u place) := by
  cases hentry : (s.txQueue u).entries[place]? with
  | none =>
    have hsame : s.removeEntry u place = s := by simp only [State.removeEntry, hentry]
    exact hsame.symm ▸ .refl s
  | some e =>
    rw [State.removeEntry_of_some hentry]
    generalize hx : ({ s.txQueue u with entries := (s.txQueue u).entries.eraseIdx place } : TxQueue) = x
    obtain ⟨hrcells, hrdescs⟩ := State.gains_returnHolder (s := s.setTxQueue u x) e.cells
    obtain ⟨hcells, hdescs⟩ := State.besides_setTxQueue (s := s) u x
    have hheld : x.cellCount + e.cells = (s.txQueue u).cellCount := by
      obtain ⟨hlt, rfl⟩ := List.getElem?_eq_some_iff.mp hentry
      have hsum := List.CommMonoid.add_sum_eraseIdx (l := (s.txQueue u).entries.map TxEntry.cells) (i := place)
        (by simpa using hlt)
      rw [List.getElem_map, List.eraseIdx_map] at hsum
      rw [← hx, Nat.add_comm]
      exact hsum
    have hcount : x.entries.length + 1 = (s.txQueue u).entries.length := by
      obtain ⟨hlt, -⟩ := List.getElem?_eq_some_iff.mp hentry
      rw [← hx]
      exact List.length_eraseIdx_add_one hlt
    constructor <;> omega

/-! ### The transmit side -/

theorem State.gains_leaveWithReport (u : TxQueueId) (place : Nat) (r : ReportResult) :
    s.Gains 0 0 (s.leaveWithReport u place r) := by
  unfold State.leaveWithReport
  split
  · exact .refl s
  · exact (State.gains_of_frame (by simp) (by simp) (by simp) (by simp) (by simp)).then
      (State.gains_removeEntry u place)

theorem State.gains_setTxFramer (f : TxFramerState) : s.Gains 0 0 (s.setTxFramer f) :=
  State.gains_of_frame rfl rfl rfl rfl rfl

theorem State.gains_setRxFramer (f : RxFramerState) : s.Gains 0 0 (s.setRxFramer f) :=
  State.gains_of_frame rfl rfl rfl rfl rfl

theorem State.gains_finishEntry (u : TxQueueId) (r : ReportResult) : s.Gains 0 0 (s.finishEntry u r) :=
  (State.gains_leaveWithReport u 0 r).then (State.gains_setTxFramer .idle)

theorem State.gains_withdrawEntry (u : TxQueueId) (place : Nat) (r : ReportResult) :
    s.Gains 0 0 (s.withdrawEntry u place r) := by
  unfold State.withdrawEntry
  dsimp only
  split
  · exact (State.gains_leaveWithReport u place r).then (State.gains_setTxFramer .idle)
  · exact State.gains_leaveWithReport u place r

theorem State.gains_discardOldest (u : TxQueueId) : s.Gains 0 0 (s.discardOldest u) := by
  unfold State.discardOldest
  dsimp only
  split
  · exact (State.gains_removeEntry u _).then (State.gains_setTxFramer .idle)
  · exact State.gains_removeEntry u _

theorem State.gains_enterWaiting (u : TxQueueId) : s.Gains 0 0 (s.enterWaiting u) := by
  obtain heq | heq | ⟨_, _, _, _, heq⟩ := s.enterWaiting_cases u <;> rw [heq]
  · exact State.gains_setTxFramer _
  · exact State.gains_finishEntry u _
  · exact State.gains_setTxFramer _

theorem State.gains_completeTxFlush : s.Gains 0 0 s.completeTxFlush := by
  refine State.gains_of_contents (by simp) (by simp) (fun q => by rw [State.rxQueue_congr (t := s) (by simp)]) (by simp)
    fun u => ?_
  obtain ⟨flush, hqueue⟩ := s.completeTxFlush_txQueue u
  rw [hqueue]

theorem State.gains_afterTransmit : s.Gains 0 0 s.afterTransmit :=
  s.completeTxFlush.select_preserves (P := s.Gains 0 0) (fun _ u _ hv => hv.then (State.gains_enterWaiting u))
    State.gains_completeTxFlush

theorem State.gains_completeSoftReset : s.Gains 0 0 s.completeSoftReset :=
  State.gains_of_frame (by simp) (by simp) (by simp) (by simp) (by simp)

theorem State.gains_deadlineChange (old new : LinkTime) : s.Gains 0 0 (s.deadlineChange old new) := by
  obtain heq | ⟨u, _, _, _, _, ⟨_, heq⟩ | ⟨_, _, heq⟩⟩ := s.deadlineChange_cases old new <;> rw [heq]
  · exact .refl s
  · exact State.gains_finishEntry u _
  · exact State.gains_setTxFramer _

theorem TxEntry.timeChange_length (old new : LinkTime) (e : TxEntry) : (e.timeChange old new).length = e.length := by
  unfold TxEntry.timeChange
  split <;> rfl

theorem State.gains_timeChange (old new : LinkTime) : s.Gains 0 0 (s.timeChange old new) := by
  have hwatched : s.Gains 0 0 (s.watched old new) := by
    refine State.gains_of_contents rfl rfl (fun q => by simp) rfl fun u => ?_
    rw [State.watched_txQueue, TxQueue.timeChange, List.map_map]
    exact List.map_congr_left fun e _ => e.timeChange_length old new
  rw [State.timeChange_eq]
  exact (hwatched.then (State.gains_deadlineChange old new)).then State.gains_afterTransmit

theorem State.gains_setHead {u : TxQueueId} {e d : TxEntry} {rest : List TxEntry}
    (hentries : (s.txQueue u).entries = e :: rest) (hlength : d.length = e.length) : s.Gains 0 0 (s.setHead u d) :=
  State.gains_setTxQueue u (by simp [hentries, hlength])

theorem State.gains_abandonStaging : s.Gains 0 0 s.abandonStaging := by
  unfold State.abandonStaging
  split
  next => exact .refl s
  next r hopen =>
    obtain ⟨hcells, hdescs⟩ := State.gains_returnHolder (s := s.closeStaging) r.cells
    have hclosed : s.closeStaging.besideCells + r.cells = s.besideCells ∧
        s.closeStaging.besideDescs + 1 = s.besideDescs := by
      have hstaged : s.stagedCells = r.cells ∧ s.stagedDescs = 1 := by
        simp [State.stagedCells, State.stagedDescs, hopen]
      have hrest : s.closeStaging.recordCells = s.recordCells ∧ s.closeStaging.recordDescs = s.recordDescs ∧
          s.closeStaging.entryCells = s.entryCells ∧ s.closeStaging.entryDescs = s.entryDescs ∧
          s.closeStaging.stagedCells = 0 ∧ s.closeStaging.stagedDescs = 0 := ⟨rfl, rfl, rfl, rfl, rfl, rfl⟩
      unfold State.besideCells State.besideDescs
      rw [show s.closeStaging.pool = s.pool from rfl]
      omega
    constructor <;> omega

/-! ### The receive side -/

variable {p : BodyPacket}

/-- A reservation was granted, and its cells and descriptor taken, exactly where the verdict is that of an admission. -/
def State.Reserves (s : State) (n : Nat) (out : State × Verdict) : Prop :=
  (out.2 = .admitted → out.1.Gains n 1 s) ∧ (out.2 ≠ .admitted → s.Gains 0 0 out.1)

theorem State.Reserves.after {n : Nat} {out : State × Verdict} (h : t.Reserves n out) (hst : s.Gains 0 0 t) :
    s.Reserves n out := by
  refine ⟨fun hadmitted => ?_, fun hnot => hst.then (h.2 hnot)⟩
  obtain ⟨hcells, hdescs⟩ := h.1 hadmitted
  obtain ⟨hcells', hdescs'⟩ := hst
  exact ⟨by omega, by omega⟩

theorem State.reserves_of_quiet {n : Nat} {v : Verdict} (hv : v ≠ .admitted) (h : s.Gains 0 0 t) :
    s.Reserves n (t, v) := ⟨fun hadmitted => absurd hadmitted hv, fun _ => h⟩

theorem State.reserveFor_reserves (q : RxQueueId) (h : Header) :
    s.Reserves (cellsFor h.length.toNat) (s.reserveFor q h) := by
  obtain ⟨hgranted, heq⟩ | heq := s.reserveFor_cases q h <;> rw [heq]
  · obtain ⟨hdescs, -, hcells⟩ := rxReservationRefusal_none.mp hgranted
    exact ⟨fun _ => State.takeReservation_gains (by omega) (by omega), fun hnot => absurd rfl hnot⟩
  · exact State.reserves_of_quiet nofun (State.gains_setRxQueue q (by simp))

theorem State.admitTo_reserves (q : RxQueueId) (h : Header) :
    s.Reserves (cellsFor h.length.toNat) (s.admitTo q h) := by
  have hrefused : s.Reserves (cellsFor h.length.toNat) (s.setRxQueue q (s.rxQueue q).refuse, .refused) :=
    State.reserves_of_quiet nofun (State.gains_setRxQueue q rfl)
  unfold State.admitTo
  dsimp only
  split
  · exact hrefused
  split
  case h_1 | h_2 => exact State.reserveFor_reserves q h
  case h_3 =>
    split
    · exact (State.reserveFor_reserves q h).after (State.gains_setRxQueue q rfl)
    · exact hrefused
  case h_4 | h_5 => exact hrefused
  case h_6 => exact State.reserves_of_quiet nofun (State.gains_setRxQueue q (by simp))

theorem State.classify_reserves (h : Header) : s.Reserves (cellsFor h.length.toNat) (s.classify h) := by
  unfold State.classify
  dsimp only
  split
  · exact State.reserves_of_quiet nofun (State.gains_of_frame rfl rfl rfl rfl rfl)
  · split
    · exact State.reserves_of_quiet nofun (State.gains_of_frame rfl rfl rfl rfl rfl)
    · exact State.admitTo_reserves _ h

/-- The payload bytes in the filling record's cells are those received, never more than L (R42). -/
def BodyPacket.Fits (p : BodyPacket) : Prop :=
  4 ≤ p.count ∧ ∀ bytes, p.storage = some bytes → bytes.length = p.storedLength

/-- A byte in BODY adds to the payload as long as L allows it (R42). -/
theorem BodyPacket.Fits.takeByte (h : p.Fits) (data : Byte) (err : Bool) : (p.takeByte data err).Fits := by
  obtain ⟨hcount, hbytes⟩ := h
  by_cases hpayload : p.count + 1 ≤ 4 + p.header.length.toNat
  · rw [BodyPacket.takeByte_of_payload hpayload]
    refine ⟨Nat.le_succ_of_le hcount, fun bytes hb => ?_⟩
    obtain ⟨old, hold, rfl⟩ := Option.map_eq_some_iff.mp hb
    have hlength := hbytes old hold
    simp only [BodyPacket.storedLength, List.length_append, List.length_singleton] at hlength ⊢
    omega
  · have hkeep (x : BodyPacket) (hcount' : x.count = p.count + 1) (hheader : x.header = p.header)
        (hstorage : x.storage = p.storage) : x.Fits := by
      refine ⟨by omega, fun bytes hb => ?_⟩
      have hlength := hbytes bytes (hstorage ▸ hb)
      simp only [BodyPacket.storedLength, hcount', hheader] at hlength ⊢
      omega
    unfold BodyPacket.takeByte
    dsimp only
    rw [if_neg hpayload]
    split <;> exact hkeep _ rfl rfl rfl

theorem BodyPacket.takeByte_frame (p : BodyPacket) (data : Byte) (err : Bool) :
    (p.takeByte data err).reservedCells = p.reservedCells ∧
      ((p.takeByte data err).storage.map fun _ => p.reservedCells) = p.storage.map fun _ => p.reservedCells := by
  unfold BodyPacket.takeByte
  dsimp only
  split
  · exact ⟨rfl, by cases p.storage <;> rfl⟩
  · split <;> exact ⟨rfl, rfl⟩

/-- What a packet in BODY holds: its reserved cells and a descriptor, if its header was granted storage (R21). -/
def BodyPacket.held (p : BodyPacket) : Nat × Nat :=
  match p.storage with
  | some _ => (p.reservedCells, 1)
  | none => (0, 0)

/-- The pool conserved around a packet in BODY. -/
def State.BalancedWith (s : State) (p : BodyPacket) : Prop :=
  s.besideCells + p.held.1 = 1024 ∧ s.besideDescs + p.held.2 = 512

/-- The pool conserved with no record filling. -/
def State.Balanced (s : State) : Prop := s.besideCells = 1024 ∧ s.besideDescs = 512

/-- The end of a stored packet returns what was reserved, or leaves it with the committed record (R23, R26, R62, R63). -/
theorem State.settleStorage_gains (f : RecordFlags) {bytes : List Byte} (hfits : bytes.length ≤ p.header.length.toNat) :
    s.Gains p.reservedCells 1 (s.settleStorage p f bytes) := by
  unfold State.settleStorage
  dsimp only
  have hback {r : RxQueue} (hrecords : r.records = (s.rxQueue p.snapshot.config.queue).records) :
      s.Gains p.reservedCells 1 ((s.setRxQueue p.snapshot.config.queue r).returnHolder p.reservedCells) := by
    have hboth := (State.gains_setRxQueue p.snapshot.config.queue hrecords).trans
      (State.gains_returnHolder p.reservedCells)
    rwa [Nat.zero_add, Nat.zero_add] at hboth
  split
  · exact hback rfl
  split
  · exact hback rfl
  unfold State.commitRecord
  dsimp only
  generalize hrec : p.record f bytes = rec
  have hcells : rec.cells ≤ p.reservedCells := by
    rw [← hrec]
    exact cellsFor_mono hfits
  have hreturned := State.gains_returnCells (s := s) (p.reservedCells - rec.cells)
  generalize hr : s.rxQueue p.snapshot.config.queue = r
  have hqueue : (s.returnCells (p.reservedCells - rec.cells)).rxQueue p.snapshot.config.queue = r := hr
  obtain ⟨hgainedCells, hgainedDescs⟩ := hreturned
  split
  · obtain ⟨hsetCells, hsetDescs⟩ := State.besides_setRxQueue (s := s.returnCells (p.reservedCells - rec.cells))
      p.snapshot.config.queue (r.commit rec)
    have hjoined : (r.commit rec).cellCount = r.cellCount + rec.cells ∧
        (r.commit rec).recordCount = r.recordCount + 1 := by
      simp [RxQueue.cellCount, RxQueue.recordCount, RxRecord.cells, RxRecord.storedLength]
    rw [hqueue] at hsetCells hsetDescs
    constructor <;> omega
  · obtain ⟨hsetCells, hsetDescs⟩ := State.gains_setRxQueue (s := s.returnCells (p.reservedCells - rec.cells))
      p.snapshot.config.queue (r := r.refuse) (by rw [hqueue]; rfl)
    obtain ⟨hbackCells, hbackDescs⟩ := State.gains_returnHolder
      (s := (s.returnCells (p.reservedCells - rec.cells)).setRxQueue p.snapshot.config.queue r.refuse) rec.cells
    constructor <;> omega

/-- The end of a packet leaves the pool conserved with nothing filling. -/
theorem State.BalancedWith.endPacket (h : s.BalancedWith p) (hfits : p.Fits) (early : Bool) :
    (s.endPacket p early).Balanced ∧ (s.endPacket p early).rxf.state = .hunt := by
  refine ⟨?_, rfl⟩
  have hrest (x : State) (f : RecordFlags) : x.Gains 0 0 (((x.settleSequence p f).settleReference p f).setRxFramer .hunt) := by
    refine State.gains_of_frame ?_ ?_ ?_ ?_ ?_ <;> unfold State.settleReference <;> split <;> simp
  have hend : s.Gains p.held.1 p.held.2 (s.endPacket p early) := by
    unfold State.endPacket BodyPacket.held
    cases hstorage : p.storage with
    | none =>
      rw [State.settleEnd_of_no_storage hstorage]
      exact hrest s _
    | some bytes =>
      rw [State.settleEnd_of_storage hstorage]
      have hlength := hfits.2 bytes hstorage
      unfold BodyPacket.storedLength at hlength
      exact (State.settleStorage_gains _ (by omega)).then (hrest _ _)
  obtain ⟨hcells, hdescs⟩ := hend
  obtain ⟨hwithCells, hwithDescs⟩ := h
  exact ⟨by omega, by omega⟩

/-! ### The pool and the filling record -/

/-- The pool is conserved and the filling record fits. -/
def State.Conserved (s : State) : Prop := s.PoolConserved ∧ s.FillingFits

theorem State.conserved_of_body (hbody : s.rxf.state = .body p) : s.Conserved ↔ s.BalancedWith p ∧ p.Fits := by
  have hfits : s.FillingFits ↔ p.Fits := by
    unfold State.FillingFits
    rw [hbody]
    exact Iff.rfl
  have hfilling : s.fillingCells = p.storage.map fun _ => p.reservedCells := by
    unfold State.fillingCells
    rw [hbody]
  unfold State.Conserved State.BalancedWith BodyPacket.held
  rw [hfits, State.poolConserved_iff, hfilling]
  cases p.storage <;> exact Iff.rfl

theorem State.fillingCells_of_no_body (hno : ∀ p, s.rxf.state ≠ .body p) : s.fillingCells = none := by
  unfold State.fillingCells
  split
  next p hp => exact absurd hp (hno p)
  next => rfl

theorem State.conserved_of_no_body (hno : ∀ p, s.rxf.state ≠ .body p) : s.Conserved ↔ s.Balanced := by
  have hfits : s.FillingFits := by
    unfold State.FillingFits
    split
    next p hp => exact absurd hp (hno p)
    next => trivial
  rw [State.Conserved, State.poolConserved_iff, State.fillingCells_of_no_body hno, State.Balanced]
  simp only [Option.getD_none, Option.isSome_none, Bool.false_eq_true, if_false, Nat.add_zero, hfits, and_true]

theorem State.conserved_of_state (hstate : s.rxf.state = .hunt ∨ s.rxf.state = .discard ∨ ∃ p, s.rxf.state = .header p) :
    s.Conserved ↔ s.Balanced :=
  State.conserved_of_no_body fun p hp => by
    obtain h | h | ⟨_, h⟩ := hstate <;> rw [h] at hp <;> cases hp

/-- A change beside the filling record that conserves cells and descriptors. -/
theorem State.Conserved.keep (h : s.Conserved) (hgains : s.Gains 0 0 t) (hrxf : t.rxf.state = s.rxf.state) :
    t.Conserved := by
  have hfilling : t.fillingCells = s.fillingCells := by simp only [State.fillingCells, hrxf]
  obtain ⟨hpool, hfits⟩ := h
  obtain ⟨hcells, hdescs⟩ := hgains
  refine ⟨?_, by simpa only [State.FillingFits, hrxf] using hfits⟩
  rw [State.poolConserved_iff] at hpool ⊢
  rw [hfilling, hcells, hdescs, Nat.add_zero, Nat.add_zero]
  exact hpool

theorem State.BalancedWith.gains (h : s.BalancedWith p) (hgains : s.Gains 0 0 t) : t.BalancedWith p :=
  ⟨by rw [hgains.1, Nat.add_zero]; exact h.1, by rw [hgains.2, Nat.add_zero]; exact h.2⟩

theorem State.Balanced.gains (h : s.Balanced) (hgains : s.Gains 0 0 t) : t.Balanced :=
  ⟨by rw [hgains.1, h.1], by rw [hgains.2, h.2]⟩

theorem State.Balanced.beginPacket (h : s.Balanced) (data : Byte) (eop err : Bool) :
    (s.beginPacket data eop err).Conserved := by
  unfold State.beginPacket
  dsimp only
  split
  · exact (State.conserved_of_state (.inl rfl)).mpr (h.gains (State.gains_of_frame rfl rfl rfl rfl rfl))
  · exact (State.conserved_of_state (.inr (.inr ⟨_, rfl⟩))).mpr (h.gains (State.gains_of_frame rfl rfl rfl rfl rfl))

theorem State.Conserved.startByte (h : s.Conserved) (data : Byte) (eop err : Bool) :
    (s.startByte data eop err).Conserved := by
  unfold State.startByte
  split
  next hstate => exact ((State.conserved_of_state (.inl hstate)).mp h).beginPacket data eop err
  next hstate => exact ((State.conserved_of_state (.inr (.inl hstate))).mp h).beginPacket data eop err
  next hstate =>
    have hbalanced := (State.conserved_of_state (.inr (.inr ⟨_, hstate⟩))).mp h
    exact (hbalanced.gains (State.gains_of_frame (t := s.headerError .hunt) rfl rfl rfl rfl rfl)).beginPacket data eop err
  next p hstate =>
    obtain ⟨hbalanced, hfits⟩ := (State.conserved_of_body hstate).mp h
    exact (hbalanced.endPacket hfits true).1.beginPacket data eop err

/-- A good header leaves a packet that holds what the pool granted it (R21). -/
theorem State.Balanced.goodHeader (h : s.Balanced) (p : HeaderPacket) (header : Header) (b3 : Byte) (eop : Bool) :
    (s.goodHeader p header b3 eop).Conserved := by
  unfold State.goodHeader
  dsimp only
  generalize hbody : p.toBody header (s.channel header.channel) (s.classify header).2 b3 = body
  have hcount : body.count = 4 := by rw [← hbody]; rfl
  have hstorage : body.storage = if (s.classify header).2 = .admitted then some [] else none := by rw [← hbody]; rfl
  have hreserved : body.reservedCells = cellsFor header.length.toNat := by rw [← hbody]; rfl
  obtain ⟨hgranted, hnot⟩ := s.classify_reserves header
  have hfits : body.Fits := by
    refine ⟨by omega, fun bytes hb => ?_⟩
    rw [hstorage] at hb
    split at hb
    · cases hb
      simp [BodyPacket.storedLength, hcount]
    · cases hb
  have hbalanced : (s.classify header).1.BalancedWith body := by
    unfold State.BalancedWith BodyPacket.held
    rw [hstorage]
    obtain ⟨hcells, hdescs⟩ := h
    by_cases hadmitted : (s.classify header).2 = .admitted
    · obtain ⟨htaken, htakenDescs⟩ := hgranted hadmitted
      rw [if_pos hadmitted]
      dsimp only
      omega
    · obtain ⟨hsame, hsameDescs⟩ := hnot hadmitted
      rw [if_neg hadmitted]
      dsimp only
      omega
  split
  · obtain ⟨hended, hhunt⟩ := hbalanced.endPacket hfits false
    exact (State.conserved_of_state (.inl hhunt)).mpr hended
  · exact (State.conserved_of_body rfl).mpr ⟨hbalanced.gains (State.gains_setRxFramer _), hfits⟩

theorem State.Conserved.otherByte (h : s.Conserved) (data : Byte) (eop err : Bool) :
    (s.otherByte data eop err).Conserved := by
  unfold State.otherByte
  split
  next hstate => exact h.keep (State.gains_of_frame rfl rfl rfl rfl rfl) rfl
  next hstate =>
    have hbalanced := (State.conserved_of_state (.inr (.inl hstate))).mp h
    split
    · exact (State.conserved_of_state (.inl rfl)).mpr (hbalanced.gains (State.gains_of_frame rfl rfl rfl rfl rfl))
    · exact h
  next p hstate =>
    have hbalanced := (State.conserved_of_state (.inr (.inr ⟨p, hstate⟩))).mp h
    have herror (after : RxFramerState) (hafter : after = .hunt ∨ after = .discard) : (s.headerError after).Conserved :=
      (State.conserved_of_state (hafter.imp id .inl)).mpr (hbalanced.gains (State.gains_of_frame rfl rfl rfl rfl rfl))
    unfold State.headerByte
    dsimp only
    split
    · split
      · exact hbalanced.goodHeader p _ data eop
      · exact herror _ (by cases eop <;> simp)
    · split
      · exact herror .hunt (.inl rfl)
      · exact (State.conserved_of_state (.inr (.inr ⟨_, rfl⟩))).mpr
          (hbalanced.gains (State.gains_of_frame rfl rfl rfl rfl rfl))
  next p hstate =>
    obtain ⟨hbalanced, hfits⟩ := (State.conserved_of_body hstate).mp h
    have htakes := hfits.takeByte data err
    obtain ⟨hreserved, hstored⟩ := p.takeByte_frame data err
    have hheld : (p.takeByte data err).held = p.held := by
      unfold BodyPacket.held
      rw [hreserved]
      cases hp : p.storage <;> cases hx : (p.takeByte data err).storage <;> simp [hp, hx] at hstored ⊢
    have hstill : s.BalancedWith (p.takeByte data err) := by
      unfold State.BalancedWith
      rw [hheld]
      exact hbalanced
    dsimp only
    split
    · obtain ⟨hended, hhunt⟩ := hstill.endPacket htakes false
      exact (State.conserved_of_state (.inl hhunt)).mpr hended
    · exact (State.conserved_of_body rfl).mpr ⟨hstill.gains (State.gains_setRxFramer _), htakes⟩

/-- A filling record that is abandoned gives back what it held (R26). -/
theorem State.Conserved.returnFilling (h : s.Conserved) : s.returnFilling.Balanced := by
  have hpool := State.poolConserved_iff.mp h.1
  unfold State.returnFilling
  split
  next cells hfilling =>
    rw [hfilling] at hpool
    obtain ⟨hcells, hdescs⟩ := State.gains_returnHolder (s := s) cells
    exact ⟨by rw [hcells]; exact hpool.1, by rw [hdescs]; exact hpool.2⟩
  next hfilling =>
    simpa only [State.Balanced, hfilling, Option.getD_none, Option.isSome_none, Bool.false_eq_true, if_false,
      Nat.add_zero] using hpool

/-! ### The moves -/

theorem State.Conserved.softResetFramer (h : s.Conserved) : s.softResetFramer.Conserved := by
  unfold State.softResetFramer
  split
  · exact h
  · exact h
  all_goals
    exact (State.conserved_of_state (.inr (.inl rfl))).mpr (h.returnFilling.gains (State.gains_setRxFramer _))

/-- What a staging record takes at TX_BEGIN (R24). -/
theorem State.gains_beginStaging {r : StagingRecord} (hclosed : s.staging.record = none)
    (hgranted : txReservationGranted s.pool r.cells = true) :
    s.Gains 0 0 ({ s with staging := { s.staging with record := some r, writePastEnd := false } }.takeReservation
      r.cells) := by
  obtain ⟨hdescs, hcells⟩ := (txReservationGranted_iff _ _).mp hgranted
  generalize hopened : ({ s with staging := { s.staging with record := some r, writePastEnd := false } } : State) = b
  have hpool : b.pool = s.pool := by rw [← hopened]
  obtain ⟨htaken, htakenDescs⟩ := State.takeReservation_gains (s := b) (n := r.cells) (by rw [hpool]; exact hcells)
    (by rw [hpool]; exact hdescs)
  have hstaged : b.besideCells = s.besideCells + r.cells ∧ b.besideDescs = s.besideDescs + 1 := by
    have hbefore : s.stagedCells = 0 ∧ s.stagedDescs = 0 := by simp [State.stagedCells, State.stagedDescs, hclosed]
    have hrest : b.recordCells = s.recordCells ∧ b.recordDescs = s.recordDescs ∧ b.entryCells = s.entryCells ∧
        b.entryDescs = s.entryDescs ∧ b.stagedCells = r.cells ∧ b.stagedDescs = 1 := by
      rw [← hopened]
      exact ⟨rfl, rfl, rfl, rfl, rfl, rfl⟩
    unfold State.besideCells State.besideDescs
    rw [hpool]
    omega
  constructor <;> omega

/-- The staging record becomes an entry without a change of the pool (R116). -/
theorem State.gains_submit {r : StagingRecord} {e : TxEntry} (hopen : s.staging.record = some r)
    (hlength : e.length = r.length) :
    s.Gains 0 0 (s.setTxQueue r.queue
      { s.txQueue r.queue with entries := (s.txQueue r.queue).entries ++ [e] }).closeStaging := by
  generalize hx : ({ s.txQueue r.queue with entries := (s.txQueue r.queue).entries ++ [e] } : TxQueue) = x
  obtain ⟨hcells, hdescs⟩ := State.besides_setTxQueue (s := s) r.queue x
  have hjoined : x.cellCount = (s.txQueue r.queue).cellCount + r.cells ∧
      x.entries.length = (s.txQueue r.queue).entries.length + 1 := by
    rw [← hx]
    simp [TxQueue.cellCount, TxEntry.cells, StagingRecord.cells, hlength]
  generalize hjoin : s.setTxQueue r.queue x = b at hcells hdescs ⊢
  have hclosed : b.closeStaging.besideCells + r.cells = b.besideCells ∧
      b.closeStaging.besideDescs + 1 = b.besideDescs := by
    have hstaged : b.stagedCells = r.cells ∧ b.stagedDescs = 1 := by
      rw [← hjoin]
      simp [State.stagedCells, State.stagedDescs, hopen]
    have hrest : b.closeStaging.recordCells = b.recordCells ∧ b.closeStaging.recordDescs = b.recordDescs ∧
        b.closeStaging.entryCells = b.entryCells ∧ b.closeStaging.entryDescs = b.entryDescs ∧
        b.closeStaging.stagedCells = 0 ∧ b.closeStaging.stagedDescs = 0 := ⟨rfl, rfl, rfl, rfl, rfl, rfl⟩
    unfold State.besideCells State.besideDescs
    rw [show b.closeStaging.pool = b.pool from rfl]
    omega
  constructor <;> omega

theorem State.gains_softResetTransmit : s.Gains 0 0 s.softResetTransmit := by
  unfold State.softResetTransmit
  split
  · exact .refl s
  next u _ _ _ => exact (State.gains_removeEntry u 0).then (State.gains_setTxFramer .idle)
  · exact State.gains_setTxFramer _

/-- What SOFT_RESET takes from its holders at its acceptance returns (R26, R27, R162). -/
theorem State.Conserved.softResetTaken (h : s.Conserved) :
    s.softResetBlocks.softResetTransmit.clearReports.Conserved := by
  have hcleared : s.softResetUnit.clearEvents.softResetFramer.Conserved :=
    (h.keep (t := s.softResetUnit.clearEvents) (State.gains_of_frame rfl rfl rfl rfl rfl) rfl).softResetFramer
  generalize hb : s.softResetUnit.clearEvents.softResetFramer = b at hcleared
  have hqueues : b.Gains 0 0 b.closeWindow.softResetRxQueues :=
    State.gains_of_contents rfl rfl (fun q => by
      rw [State.softResetRxQueues, State.rxQueue_map]; rfl) rfl fun _ => rfl
  have hflags (x : State) : x.Gains 0 0 x.softResetTxFlags :=
    State.gains_of_contents rfl rfl (fun _ => rfl) rfl fun u => by
      rw [State.softResetTxFlags, State.txQueue_map]
  have hblocks : b.Gains 0 0 s.softResetBlocks := by
    rw [State.softResetBlocks, hb]
    exact (hqueues.then State.gains_abandonStaging).then (hflags _)
  have hreports (x : State) : x.Gains 0 0 x.clearReports := State.gains_of_frame rfl rfl rfl rfl rfl
  refine hcleared.keep ((hblocks.then State.gains_softResetTransmit).then (hreports _)) ?_
  rw [State.softResetBlocks, hb]
  simp [State.clearReports, State.softResetTxFlags, State.softResetRxQueues]

theorem State.Conserved.acceptSoftReset (h : s.Conserved) : s.acceptSoftReset.Conserved := by
  rw [State.acceptSoftReset_eq]
  exact h.softResetTaken.keep (State.gains_completeSoftReset.then State.gains_afterTransmit) (by simp)

/-- After a hardware reset everything is free (R31). -/
theorem State.hardwareReset_conserved (held : Bool) (waiting : List Instr) :
    (State.hardwareReset held waiting).Conserved := by
  refine ⟨⟨?_, ?_⟩, trivial⟩
  · rw [State.hardwareReset_heldCells]; rfl
  · rw [State.hardwareReset_heldDescs]; rfl

theorem State.startRxFlush_records (q v : RxQueueId) : ((s.startRxFlush q).rxQueue v).records = (s.rxQueue v).records := by
  rw [State.startRxFlush_rxQueue]
  split
  next heq => rw [heq]
  next => rfl

theorem State.completeRxFlush_records (q v : RxQueueId) :
    ((s.completeRxFlush q).rxQueue v).records = (s.rxQueue v).records := by
  rw [State.completeRxFlush_rxQueue]
  split
  next heq => rw [heq.1]
  next => rfl

theorem State.gains_completeRxFlush (q : RxQueueId) : s.Gains 0 0 (s.completeRxFlush q) :=
  State.gains_of_contents (by simp) (by simp) (State.completeRxFlush_records q) (by simp) fun u => by
    rw [State.txQueue_congr (t := s) (by simp)]

theorem State.Moves.conserved (h : s.Moves t) (hs : s.Conserved) : t.Conserved := by
  cases h
  -- moves that leave the pool and its holders
  case writeTime | popReport | openWindow | closeWindow => exact hs
  case lineTxOff => exact hs.keep (State.gains_of_frame (by simp) (by simp) (by simp) (by simp) (by simp)) (by simp)
  case hardwareReset =>
    exact State.hardwareReset_conserved true s.pending
  -- moves of one queue that keep what it holds
  case adjustRx q r hadjusts _ => exact hs.keep (State.gains_setRxQueue q hadjusts.keeps.1) rfl
  case startRxFlush q _ =>
    have hstarted : s.Gains 0 0 (s.startRxFlush q) :=
      State.gains_of_contents (by simp) (by simp) (State.startRxFlush_records q) (by simp) fun u => by
        rw [State.txQueue_congr (t := s) (by simp)]
    exact hs.keep (hstarted.then (State.gains_completeRxFlush q)) (by simp)
  case configureTx u g _ _ => exact hs.keep (State.gains_setTxQueue u rfl) rfl
  case pauseTx u => exact hs.keep (State.gains_setTxQueue u rfl) rfl
  case startTx u =>
    exact hs.keep ((State.gains_setTxQueue u (x := { s.txQueue u with paused := false }) rfl).then
      State.gains_afterTransmit) (by simp)
  case startTxFlush u _ =>
    refine hs.keep ?_ (by simp)
    have hflagged : s.Gains 0 0 ((s.setTxQueue u { s.txQueue u with flush := true }).startLong (.txFlush u)) :=
      (State.gains_setTxQueue u (x := { s.txQueue u with flush := true }) rfl).then
        (State.gains_of_frame rfl rfl rfl rfl rfl)
    exact hflagged.then State.gains_completeTxFlush
  case launch u place e hplace =>
    refine hs.keep ((State.gains_setTxQueue u ?_).then State.gains_afterTransmit) (by simp)
    obtain ⟨hlt, rfl⟩ := List.getElem?_eq_some_iff.mp hplace
    have hlength : (s.txQueue u).entries[place].length =
        ((s.txQueue u).entries.map (·.length))[place]'(by simpa using hlt) := by simp
    rw [List.map_set]
    change List.set _ place (s.txQueue u).entries[place].length = _
    rw [hlength, List.set_getElem_self]
  -- link time and LINE_TX
  case boundary =>
    have hbefore : s.Gains 0 0 ({ s.noteBoundary with time := s.time.boundary }.raiseIf s.time.applies .timeApplied) := by
      unfold State.noteBoundary
      refine State.gains_of_frame ?_ ?_ ?_ ?_ ?_ <;> split <;> simp
    refine hs.keep (hbefore.then (State.gains_timeChange _ _)) ?_
    unfold State.takeBoundary State.noteBoundary
    split <;> simp
  case countingEdge =>
    have hbefore : s.Gains 0 0 ({ s with time := s.time.countEdge }.raiseIf s.time.slewEnds .slewDone) :=
      State.gains_of_frame (by simp) (by simp) (by simp) (by simp) (by simp)
    exact hs.keep (hbefore.then (State.gains_timeChange _ _)) (by simp [State.takeCountingEdge])
  case lineTxOn =>
    have hon : s.Gains 0 0 { s with txf := { s.txf with lineTx := true } } := State.gains_of_frame rfl rfl rfl rfl rfl
    exact hs.keep (hon.then State.gains_afterTransmit) (by simp)
  -- the receive line
  case startByte data eop err => exact hs.startByte data eop err
  case otherByte data eop err => exact hs.otherByte data eop err
  case lineRxOff =>
    exact (State.conserved_of_state (.inl rfl)).mpr
      (hs.returnFilling.gains (State.gains_of_frame rfl rfl rfl rfl rfl))
  -- records and entries that leave
  case rxFlushRemoval q _ =>
    exact hs.keep ((State.gains_removeHeadRecord q).then (State.gains_completeRxFlush q)) (by simp)
  case releaseWindow w _ _ =>
    exact hs.keep ((State.gains_removeHeadRecord w.queue).then (State.gains_of_frame rfl rfl rfl rfl rfl))
      (congrArg RxFramer.state (State.removeHeadRecord_frame s w.queue).2.2.1)
  case withdraw u place r _ _ => exact hs.keep ((State.gains_withdrawEntry u place r).then State.gains_afterTransmit) (by simp)
  case expire u _ _ => exact hs.keep ((State.gains_finishEntry u _).then State.gains_afterTransmit) (by simp)
  case abort a _ _ => exact hs.keep ((State.gains_finishEntry a.queue _).then State.gains_afterTransmit) (by simp)
  case endCut a _ _ =>
    exact hs.keep ((((State.gains_removeEntry a.queue 0).then (State.gains_setTxFramer .idle)).then
      State.gains_completeSoftReset).then State.gains_afterTransmit) (by simp)
  case softResetRxRemoval q _ =>
    exact hs.keep (((State.gains_removeHeadRecord q).then State.gains_completeSoftReset).then State.gains_afterTransmit)
      (by simp)
  case softResetTxRemoval u _ _ =>
    exact hs.keep (((State.gains_discardOldest u).then State.gains_completeSoftReset).then State.gains_afterTransmit)
      (by simp)
  case acceptSoftReset => exact hs.acceptSoftReset
  -- staging
  case beginStaging r _ hclosed hgranted => exact hs.keep (State.gains_beginStaging hclosed hgranted) (by simp)
  case submit r _ hopen _ _ => exact hs.keep ((State.gains_submit hopen rfl).then State.gains_afterTransmit) (by simp [State.closeStaging])
  case abandon => exact hs.keep State.gains_abandonStaging (by simp)
  -- the transmit framer
  case release => exact hs.keep (State.gains_setTxFramer _) rfl
  case beginAttempt u _ _ e _ _ hentries =>
    have hbegun : s.Gains 0 0 (s.beginAttempt u e) := by
      unfold State.beginAttempt
      refine (State.gains_setHead hentries ?_).then (State.gains_setTxFramer _)
      rfl
    exact hs.keep (hbegun.then State.gains_afterTransmit) (by simp [State.beginAttempt, State.setHead])
  case acceptByte a e _ _ _ hentries =>
    refine hs.keep ?_ (by simp)
    have hheld := State.gains_setHead hentries (e.accepted_frame a.position s.time.stamp).2.2
    unfold State.acceptByte
    dsimp only
    split
    · exact hheld.then (State.gains_setTxFramer _)
    · refine Gains.then ?_ State.gains_afterTransmit
      unfold State.completeEntry
      exact (hheld.then (State.gains_of_frame rfl rfl rfl rfl rfl)).then (State.gains_finishEntry a.queue _)
  case retry a _ _ _ _ _ _ =>
    refine hs.keep (State.Gains.then ?_ State.gains_afterTransmit) (by simp)
    unfold State.retryEntry
    split
    · exact State.gains_enterWaiting a.queue
    · exact State.gains_setTxFramer .idle

theorem State.Alike.conserved (h : s.Alike t) (hs : s.Conserved) : t.Conserved :=
  hs.keep (State.gains_of_frame h.cells h.descs h.rxq h.staging h.txq) h.rxf

/-- Settles O52. -/
theorem everyStepConservesThePool : Obligations.EveryStepConservesThePool := fun _ _ hpool hfits hstep =>
  step_keeps (P := State.Conserved) (fun _ _ halike hs => halike.conserved hs) (fun _ _ hmoves hs => hmoves.conserved hs)
    hstep ⟨hpool, hfits⟩

end Sys2Proof.Machine
end

section
/-! Proofs about a SOFT_RESET in progress, which stays quiet (R147, R163), and about the state after reset. -/

namespace Sys2Proof.Machine

variable {s t : State}

/-! ### Quiet states -/

theorem State.softResetting_iff : s.softResetting = true ↔ s.cmd.running = some .softReset := decide_eq_true_iff

/-- With no SOFT_RESET in progress, quiet is that no entry is being cut. -/
theorem State.softResetQuiet_of_other (hother : s.cmd.running ≠ some .softReset)
    (hcut : ∀ a, s.txf.state = .sending a → a.cut = false) : s.SoftResetQuiet :=
  ⟨fun hsoft => absurd (State.softResetting_iff.mp hsoft) hother,
    fun a ha hon => by rw [hcut a ha] at hon; cases hon⟩

theorem State.SoftResetQuiet.not_cut (h : s.SoftResetQuiet) (hother : s.cmd.running ≠ some .softReset) {a : Attempt}
    (ha : s.txf.state = .sending a) : a.cut = false :=
  Bool.eq_false_iff.mpr fun hcut => hother (State.softResetting_iff.mp (h.2 a ha hcut))

/-- During SOFT_RESET the framer waits for no line, and sends only what it cuts (R147). -/
theorem State.SoftResetQuiet.not_waiting (h : s.SoftResetQuiet) (hsoft : s.cmd.running = some .softReset)
    {u : TxQueueId} {armed setBack : Bool} : s.txf.state ≠ .waitingLine u armed setBack := fun hwaiting => by
  obtain ⟨a, ha, -⟩ := (h.1 (State.softResetting_iff.mpr hsoft)).2.2.2.2 u (by rw [hwaiting]; rfl)
  rw [hwaiting] at ha
  cases ha

/-- What a change has to leave for a quiet state to stay quiet. -/
theorem State.SoftResetQuiet.keep (h : s.SoftResetQuiet)
    (hrunning : t.cmd.running = some .softReset ↔ s.cmd.running = some .softReset)
    (hsending : ∀ a, t.txf.state = .sending a ↔ s.txf.state = .sending a)
    (hflight : t.txf.state.inFlightQueue = s.txf.state.inFlightQueue)
    (hsoft : s.cmd.running = some .softReset →
      (∀ q, (s.rxQueue q).state = .off → (t.rxQueue q).state = .off) ∧
        (s.window.record = none → t.window.record = none) ∧ (s.staging.record = none → t.staging.record = none) ∧
        ((∀ q, (s.rxQueue q).state = .off) → s.fillingCells = none → t.fillingCells = none)) : t.SoftResetQuiet := by
  refine ⟨fun hnow => ?_, fun a ha hcut => ?_⟩
  · have hbefore := hrunning.mp (State.softResetting_iff.mp hnow)
    obtain ⟨hqueues, hwindow, hstaging, hfilling⟩ := hsoft hbefore
    obtain ⟨hoff, hclosed, hempty, hnone, hcutting⟩ := h.1 (State.softResetting_iff.mpr hbefore)
    refine ⟨fun q => hqueues q (hoff q), hwindow hclosed, hstaging hempty, hfilling hoff hnone, fun u hu => ?_⟩
    obtain ⟨a, ha, hcut⟩ := hcutting u (hflight ▸ hu)
    exact ⟨a, (hsending a).mpr ha, hcut⟩
  · exact State.softResetting_iff.mpr (hrunning.mpr (State.softResetting_iff.mp (h.2 a ((hsending a).mp ha) hcut)))

/-- Of a change that leaves all that quiet speaks of. -/
theorem State.SoftResetQuiet.keep_of_frame (h : s.SoftResetQuiet) (hcmd : t.cmd.running = s.cmd.running)
    (hstate : t.txf.state = s.txf.state) (hrxq : ∀ q, (s.rxQueue q).state = .off → (t.rxQueue q).state = .off)
    (hwindow : s.window.record = none → t.window.record = none)
    (hstaging : s.staging.record = none → t.staging.record = none) (hrxf : t.rxf.state = s.rxf.state) :
    t.SoftResetQuiet :=
  h.keep (by rw [hcmd]) (fun a => by rw [hstate]) (by rw [hstate]) fun _ =>
    ⟨hrxq, hwindow, hstaging, fun _ hnone => by
      rw [← hnone]
      simp only [State.fillingCells, hrxf]⟩

/-! ### Selections and completions -/

/-- Neither a selection nor the completion of a flush touches a SOFT_RESET or a cut. -/
theorem State.SoftResetQuiet.afterTransmit (h : s.SoftResetQuiet) : s.afterTransmit.SoftResetQuiet := by
  have hflushed : s.completeTxFlush.SoftResetQuiet := by
    unfold State.completeTxFlush
    split
    next u hrunning =>
      have hother : s.cmd.running ≠ some .softReset := by simp [hrunning]
      split
      · exact State.softResetQuiet_of_other nofun fun a ha => h.not_cut hother ha
      · exact h
    next => exact h
  refine s.completeTxFlush.select_preserves (P := State.SoftResetQuiet) (fun v u hselects _ => ?_) hflushed
  obtain ⟨-, -, hsoft, -⟩ := v.selects_some hselects
  have hother : (v.enterWaiting u).cmd.running ≠ some .softReset := by
    rw [(v.enterWaiting_frame u).2.2.2.2.2.2.2.2.1]
    exact decide_eq_false_iff_not.mp hsoft
  refine State.softResetQuiet_of_other hother fun a ha => ?_
  obtain heq | heq | ⟨_, _, _, _, heq⟩ := v.enterWaiting_cases u <;> rw [heq] at ha
  · cases ha
  · simp at ha
  · cases ha

/-- With everything of the pool free no entry is left to be cut (R18). -/
theorem State.inFlight_none_of_poolEmpty (hpool : s.Conserved) (hhead : s.InFlightIsHead) (hempty : s.poolEmpty = true) :
    s.txf.state.inFlightQueue = none := by
  have hfree : s.pool.freeDescs = 512 := by
    simp only [State.poolEmpty, Bool.and_eq_true, decide_eq_true_eq] at hempty
    exact hempty.2
  have hdescs := (State.poolConserved_iff.mp hpool.1).2
  have hentries : s.entryDescs = 0 := by
    unfold State.besideDescs at hdescs
    omega
  cases hflight : s.txf.state.inFlightQueue with
  | none => rfl
  | some u =>
    have hlength := (Finset.sum_eq_zero_iff.mp hentries) u (Finset.mem_univ u)
    exact absurd (List.length_eq_zero_iff.mp hlength) (hhead u hflight)

/-- A SOFT_RESET that completes leaves no entry in flight (R164). -/
theorem State.SoftResetQuiet.completeSoftReset (h : s.SoftResetQuiet) (hpool : s.Conserved) (hhead : s.InFlightIsHead) :
    s.completeSoftReset.SoftResetQuiet := by
  unfold State.completeSoftReset
  split
  next hdone =>
    refine State.softResetQuiet_of_other nofun fun a ha => ?_
    have hnone := State.inFlight_none_of_poolEmpty hpool hhead (Bool.and_eq_true_iff.mp hdone).2
    have ha' : s.txf.state = .sending a := ha
    rw [ha'] at hnone
    cases hnone
  next => exact h

/-! ### The receive side during SOFT_RESET -/

theorem RxQueue.Takes.keeps_off {r x : RxQueue} (h : r.Takes x) (hoff : r.state = .off) : x.state = .off := by
  cases h
  case refuse | reject => exact hoff
  case lose =>
    unfold RxQueue.lose RxQueue.holdOnLoss
    split
    next hstate => exact absurd (show r.state = .run from hstate) (by simp [hoff])
    next hstate => exact absurd (show r.state = .grace from hstate) (by simp [hoff])
    next => exact hoff
  case start hpending _ => rw [hoff] at hpending; cases hpending
  case commit rec hstate _ _ => exact absurd hoff hstate

theorem RxQueue.timeChange_off (old new : LinkTime) {r : RxQueue} (hoff : r.state = .off) :
    (r.timeChange old new).state = .off := by
  refine RxQueue.timeChange_keeps (P := fun x => x.state = .off) (fun x T hwatched _ hx => ?_)
    (fun x T hwatched _ hx => absurd hx (RxQueue.stopWatched_eq_some.mp hwatched).1) hoff
  exact absurd hx (by rw [(RxQueue.startWatched_eq_some.mp hwatched).1]; nofun)

/-- While every queue is OFF no header is granted storage (R60). -/
theorem State.classify_not_admitted (hoff : ∀ q, (s.rxQueue q).state = .off) (h : Header) :
    (s.classify h).2 ≠ .admitted := by
  unfold State.classify
  dsimp only
  split
  · nofun
  · split
    · nofun
    · rw [State.admitTo_of_refusing (.inr (.inl (hoff _)))]
      nofun

theorem State.startByte_fillingCells (data : Byte) (eop err : Bool) : (s.startByte data eop err).fillingCells = none := by
  have hbegin (b : State) : (b.beginPacket data eop err).fillingCells = none := by
    unfold State.beginPacket
    dsimp only
    split <;> rfl
  unfold State.startByte
  split <;> exact hbegin _

/-- While every queue is OFF no record begins to fill. -/
theorem State.otherByte_fillingCells (hoff : ∀ q, (s.rxQueue q).state = .off) (hnone : s.fillingCells = none)
    (data : Byte) (eop err : Bool) : (s.otherByte data eop err).fillingCells = none := by
  unfold State.otherByte
  split
  next hstate => exact hnone
  next =>
    split
    · rfl
    · exact hnone
  next p _ =>
    unfold State.headerByte
    dsimp only
    split
    · split
      next header _ =>
        unfold State.goodHeader
        dsimp only
        split
        · rfl
        · simp [State.fillingCells, HeaderPacket.toBody, State.classify_not_admitted hoff header]
      next => cases eop <;> rfl
    · split <;> rfl
  next p hstate =>
    have hstorage : p.storage = none := by
      unfold State.fillingCells at hnone
      rw [hstate] at hnone
      exact Option.map_eq_none_iff.mp hnone
    have htaken := (p.takeByte_frame data err).2
    rw [hstorage, Option.map_none, Option.map_eq_none_iff] at htaken
    dsimp only
    split
    · rfl
    · simp [State.fillingCells, htaken]

/-! ### The moves -/

/-- A change of link time during SOFT_RESET finds no watcher. -/
theorem State.SoftResetQuiet.timeChange (h : s.SoftResetQuiet) (old new : LinkTime) :
    (s.timeChange old new).SoftResetQuiet := by
  rw [State.timeChange_eq]
  refine State.SoftResetQuiet.afterTransmit ?_
  have hwatched : (s.watched old new).SoftResetQuiet :=
    h.keep_of_frame rfl rfl (fun q hoff => by rw [State.watched_rxQueue]; exact RxQueue.timeChange_off old new hoff)
      id id rfl
  obtain heq | ⟨u, _, _, hwaiting, _, hchanged⟩ := (s.watched old new).deadlineChange_cases old new
  · rwa [heq]
  · have hother : (s.watched old new).cmd.running ≠ some .softReset := fun hsoft => hwatched.not_waiting hsoft hwaiting
    refine State.softResetQuiet_of_other (by simpa using hother) fun a ha => ?_
    obtain ⟨_, heq⟩ | ⟨_, _, heq⟩ := hchanged <;> rw [heq] at ha
    · simp at ha
    · cases ha

theorem TxFramerState.noteSetBack_sending {f : TxFramerState} {a : Attempt} : f.noteSetBack = .sending a ↔ f = .sending a := by
  unfold TxFramerState.noteSetBack
  split <;> simp

theorem TxFramerState.noteSetBack_inFlightQueue (f : TxFramerState) : f.noteSetBack.inFlightQueue = f.inFlightQueue := by
  unfold TxFramerState.noteSetBack
  split <;> rfl

/-- What follows a removal of SOFT_RESET, which may be its last (R164). -/
theorem State.SoftResetQuiet.afterRemoval (h : s.SoftResetQuiet) (hpool : s.Conserved) (hhead : s.InFlightIsHead) :
    s.completeSoftReset.afterTransmit.SoftResetQuiet := (h.completeSoftReset hpool hhead).afterTransmit

theorem State.inFlightIsHead_of_idle (hidle : s.txf.state = .idle) : s.InFlightIsHead := fun u hu => by
  rw [hidle] at hu; cases hu

/-- SOFT_RESET leaves no packet in BODY (R51). -/
theorem State.softResetFramer_not_body (s : State) (p : BodyPacket) : s.softResetFramer.rxf.state ≠ .body p := by
  unfold State.softResetFramer
  split
  next hstate => rw [hstate]; nofun
  next hstate => rw [hstate]; nofun
  next => nofun
  next => nofun

/-- The acceptance of SOFT_RESET makes the state quiet (R51, R95, R128, R162). -/
theorem State.acceptSoftReset_quiet (hhead : s.InFlightIsHead) (hpool : s.Conserved) :
    s.acceptSoftReset.SoftResetQuiet := by
  rw [State.acceptSoftReset_eq]
  have hfilling : s.softResetBlocks.softResetTransmit.clearReports.fillingCells = none := by
    refine State.fillingCells_of_no_body fun p hp => ?_
    have hrxf : s.softResetBlocks.softResetTransmit.clearReports.rxf =
        s.softResetUnit.clearEvents.softResetFramer.rxf := by
      simp [State.clearReports, State.softResetBlocks, State.softResetTxFlags, State.softResetRxQueues]
    exact State.softResetFramer_not_body _ p (hrxf ▸ hp)
  have hflight : s.softResetBlocks.softResetTransmit.clearReports.InFlightIsHead ∧
      ∀ u, s.softResetBlocks.softResetTransmit.clearReports.txf.state.inFlightQueue = some u →
        ∃ a, s.softResetBlocks.softResetTransmit.clearReports.txf.state = .sending a ∧ a.cut = true := by
    change s.softResetBlocks.softResetTransmit.InFlightIsHead ∧
      ∀ u, s.softResetBlocks.softResetTransmit.txf.state.inFlightQueue = some u →
        ∃ a, s.softResetBlocks.softResetTransmit.txf.state = .sending a ∧ a.cut = true
    have htxf : s.softResetBlocks.txf = s.txf := by simp
    unfold State.softResetTransmit
    split
    next hidle => exact ⟨State.inFlightIsHead_of_idle hidle, fun u hu => by rw [hidle] at hu; cases hu⟩
    next => exact ⟨State.inFlightIsHead_of_idle rfl, fun u hu => nomatch hu⟩
    next a hsending =>
      refine ⟨fun u hu => ?_, fun u hu => ⟨_, rfl, rfl⟩⟩
      cases hu
      change (s.softResetBlocks.txQueue a.queue).entries ≠ []
      rw [State.softResetBlocks_txQueue]
      rw [htxf] at hsending
      exact hhead a.queue (by rw [hsending]; rfl)
  refine State.SoftResetQuiet.afterRemoval ?_ hpool.softResetTaken hflight.1
  refine ⟨fun _ => ⟨fun q => ?_, by simp [State.clearReports], by simp [State.clearReports], hfilling, hflight.2⟩,
    fun _ _ _ => State.softResetting_iff.mpr (by simp [State.clearReports])⟩
  rw [State.rxQueue_congr (t := { s with rxq := s.rxq.map RxQueue.softReset }) (by simp [State.clearReports]),
    State.rxQueue_map]
  rfl

/-- Every move keeps a quiet state quiet, where the pool is conserved and the entry in flight is a head. -/
theorem State.Moves.softResetQuiet (h : s.Moves t) (hs : s.SoftResetQuiet) (hflags : s.FlushFlagsAgree)
    (hhead : s.InFlightIsHead) (hpool : s.Conserved) : t.SoftResetQuiet := by
  have hframe {x : State} (hcmd : x.cmd = s.cmd) (hstate : x.txf.state = s.txf.state) (hrxq : x.rxq = s.rxq)
      (hwindow : s.window.record = none → x.window.record = none)
      (hstaging : s.staging.record = none → x.staging.record = none) (hrxf : x.rxf.state = s.rxf.state) :
      x.SoftResetQuiet :=
    hs.keep_of_frame (by rw [hcmd]) hstate (fun q hoff => by rwa [State.rxQueue_congr hrxq]) hwindow hstaging hrxf
  -- a change while no SOFT_RESET is in progress, which starts none and cuts nothing
  have hother {x : State} (hnot : s.cmd.running ≠ some .softReset) (hrunning : x.cmd.running ≠ some .softReset)
      (hsending : ∀ a, x.txf.state = .sending a → s.txf.state = .sending a ∨ a.cut = false) : x.SoftResetQuiet :=
    State.softResetQuiet_of_other hrunning fun a ha => (hsending a ha).elim (hs.not_cut hnot) id
  -- a head that waits, or is sent without a cut, is in flight only then
  have hwaits {u : TxQueueId} {armed setBack : Bool} (hwaiting : s.txf.state = .waitingLine u armed setBack) :
      s.cmd.running ≠ some .softReset := fun hsoft => hs.not_waiting hsoft hwaiting
  have hsends {a : Attempt} (hsending : s.txf.state = .sending a) (hcut : a.cut = false) :
      s.cmd.running ≠ some .softReset := fun hsoft => by
    obtain ⟨b, hb, hbcut⟩ := (hs.1 (State.softResetting_iff.mpr hsoft)).2.2.2.2 a.queue (by rw [hsending]; rfl)
    rw [hsending] at hb
    cases hb
    rw [hcut] at hbcut
    cases hbcut
  have hidle (hnone : s.cmd.running = none) : s.cmd.running ≠ some .softReset := by simp [hnone]
  cases h
  -- moves that leave what quiet speaks of
  case writeTime | popReport | configureTx | pauseTx => exact hs
  case closeWindow => exact hframe rfl rfl rfl (fun _ => rfl) id rfl
  case abandon => exact hframe (by simp) (by simp) (by simp) (by simp) (by simp) (by simp)
  case lineRxOff =>
    refine hs.keep (by simp) (fun a => by simp) (by simp) fun _ => ⟨fun q hoff => ?_, by simp, by simp, fun _ _ => rfl⟩
    rwa [State.rxQueue_congr (t := s) (by simp)]
  case startTx => exact State.SoftResetQuiet.afterTransmit (hframe rfl rfl rfl id id rfl)
  case launch => exact State.SoftResetQuiet.afterTransmit (hframe rfl rfl rfl id id rfl)
  case lineTxOn =>
    exact State.SoftResetQuiet.afterTransmit (hframe (x := { s with txf := { s.txf with lineTx := true } }) rfl rfl rfl
      id id rfl)
  case lineTxOff =>
    unfold State.lineTxOff
    dsimp only
    split
    next hwaiting => exact hother (hwaits hwaiting) (hwaits hwaiting) fun a ha => nomatch ha
    next => exact hframe rfl rfl rfl id id rfl
  -- moves of an IDLE unit
  case openWindow q hnone _ => exact hother (hidle hnone) (hidle hnone) fun a ha => .inl ha
  case releaseWindow w hnone _ =>
    exact hother (hidle hnone) (by simpa using hidle hnone) fun a ha => .inl (by simpa using ha)
  case beginStaging r hnone _ _ => exact hother (hidle hnone) (by simpa using hidle hnone) fun a ha => .inl (by simpa using ha)
  case submit r hnone _ _ _ =>
    refine State.SoftResetQuiet.afterTransmit ?_
    exact hother (hidle hnone) (hidle hnone) fun a ha => .inl ha
  case startRxFlush q hnone =>
    refine hother (hidle hnone) (fun hsoft => ?_) fun a ha => .inl (by simpa using ha)
    have hstarted := State.running_of_completeRxFlush hsoft
    rw [(hflags.startRxFlush hnone).2] at hstarted
    cases hstarted
  case startTxFlush u hnone =>
    exact hother (hidle hnone) (fun hsoft => nomatch State.running_of_completeTxFlush hsoft) fun a ha =>
      .inl (by simpa using ha)
  -- moves of a flush
  case rxFlushRemoval q hflush =>
    have hnot : s.cmd.running ≠ some .softReset := by simp [(hflags.1 q).mp hflush]
    refine hother hnot (fun hsoft => hnot ?_) fun a ha => .inl (by simpa using ha)
    simpa using State.running_of_completeRxFlush hsoft
  case withdraw u place r hallowed _ =>
    have hnot : s.cmd.running ≠ some .softReset := by
      obtain hnone | hflush := hallowed
      · exact hidle hnone
      · simp [(hflags.2 u).mp hflush]
    refine State.SoftResetQuiet.afterTransmit (hother hnot (by simpa using hnot) fun a ha => .inl ?_)
    unfold State.withdrawEntry at ha
    dsimp only at ha
    split at ha
    · cases ha
    · simpa using ha
  -- moves of a head that waits or is sent
  case expire hwaiting =>
    exact State.SoftResetQuiet.afterTransmit (hother (hwaits hwaiting) (by simpa using hwaits hwaiting)
      fun a ha => by simp at ha)
  case release hwaiting => exact hother (hwaits hwaiting) (hwaits hwaiting) fun a ha => nomatch ha
  case beginAttempt hwaiting _ =>
    refine State.SoftResetQuiet.afterTransmit (hother (hwaits hwaiting) (hwaits hwaiting) fun a ha => .inr ?_)
    cases ha
    rfl
  case acceptByte a e _ hsending hcut _ =>
    unfold State.acceptByte
    dsimp only
    split
    · refine hother (hsends hsending hcut) (hsends hsending hcut) fun b hb => .inr ?_
      cases hb
      exact hcut
    · exact State.SoftResetQuiet.afterTransmit (hother (hsends hsending hcut)
        (by simpa [State.completeEntry, State.setHead] using hsends hsending hcut)
        fun b hb => by simp [State.completeEntry] at hb)
  case retry a e rest hsending hcut hentries _ =>
    refine State.SoftResetQuiet.afterTransmit (hother (hsends hsending hcut) (by simpa using hsends hsending hcut)
      fun b hb => ?_)
    unfold State.retryEntry at hb
    split at hb
    · obtain heq | heq | ⟨_, _, _, _, heq⟩ := s.enterWaiting_cases a.queue <;> rw [heq] at hb
      · cases hb
      · simp at hb
      · cases hb
    · cases hb
  case abort a hsending hcut =>
    exact State.SoftResetQuiet.afterTransmit (hother (hsends hsending hcut) (by simpa using hsends hsending hcut)
      fun b hb => by simp at hb)
  -- link time
  case boundary =>
    obtain ⟨b, heq, _, hrxq, _, hcmd, hwindow, htxf, hstaging, hrxf⟩ := s.takeBoundary_before
    have hnoted : s.noteBoundary.txf.state = s.txf.state ∨ s.noteBoundary.txf.state = s.txf.state.noteSetBack := by
      unfold State.noteBoundary
      split
      · exact .inr rfl
      · exact .inl rfl
    rw [heq]
    refine State.SoftResetQuiet.timeChange (hs.keep (by rw [hcmd]) (fun a => ?_) ?_ fun _ => ⟨fun q hoff => ?_,
      fun h => by rwa [hwindow], fun h => by rwa [hstaging], fun _ hnone => ?_⟩) _ _
    · rw [htxf]
      obtain hsame | hback := hnoted
      · rw [hsame]
      · rw [hback, TxFramerState.noteSetBack_sending]
    · rw [htxf]
      obtain hsame | hback := hnoted
      · rw [hsame]
      · rw [hback, TxFramerState.noteSetBack_inFlightQueue]
    · rwa [State.rxQueue_congr hrxq]
    · rw [← hnone]
      simp only [State.fillingCells, hrxf]
  case countingEdge =>
    obtain ⟨b, heq, _, hrxq, _, hcmd, hwindow, htxf, hstaging, hrxf⟩ := s.takeCountingEdge_before
    rw [heq]
    exact (hframe hcmd (by rw [htxf]) hrxq (fun h => by rwa [hwindow]) (fun h => by rwa [hstaging])
      (by rw [hrxf])).timeChange _ _
  -- the receive side
  case adjustRx q r _ hoff =>
    obtain hnone | hoff := hoff
    · exact hother (hidle hnone) (hidle hnone) fun a ha => .inl ha
    · refine hs.keep_of_frame rfl rfl (fun v hv => ?_) id id rfl
      rw [State.rxQueue_setRxQueue]
      split
      next heq => exact hoff (heq ▸ hv)
      next => exact hv
  case startByte data eop err =>
    exact hs.keep (by simp) (fun a => by simp) (by simp) fun _ =>
      ⟨fun q => State.startByte_keeps (Q := fun r => r.state = .off) (fun _ _ h => h.keeps_off) q data eop err,
        by simp, by simp, fun _ _ => State.startByte_fillingCells data eop err⟩
  case otherByte data eop err =>
    exact hs.keep (by simp) (fun a => by simp) (by simp) fun _ =>
      ⟨fun q => State.otherByte_keeps (Q := fun r => r.state = .off) (fun _ _ h => h.keeps_off) q data eop err,
        by simp, by simp, fun hoff hnone => State.otherByte_fillingCells hoff hnone data eop err⟩
  -- resets
  case hardwareReset => exact State.softResetQuiet_of_other nofun fun a ha => nomatch ha
  case acceptSoftReset => exact State.acceptSoftReset_quiet hhead hpool
  case endCut a hsending hcut =>
    have hsoft := State.softResetting_iff.mp (hs.2 a hsending hcut)
    have hgone : ((s.removeEntry a.queue 0).setTxFramer .idle).SoftResetQuiet := by
      obtain ⟨hoff, hclosed, hempty, hnone, -⟩ := hs.1 (State.softResetting_iff.mpr hsoft)
      refine ⟨fun _ => ⟨fun q => ?_, by simpa using hclosed, by simpa using hempty, ?_, fun u hu => nomatch hu⟩,
        fun b hb => nomatch hb⟩
      · rw [State.rxQueue_congr (t := s) (by simp)]
        exact hoff q
      · rw [← hnone]
        simp [State.fillingCells]
    exact hgone.afterRemoval (hpool.keep ((State.gains_removeEntry a.queue 0).then (State.gains_setTxFramer .idle))
      (by simp)) (State.inFlightIsHead_of_idle rfl)
  case softResetRxRemoval q hsoft =>
    have hgone : (s.removeHeadRecord q).SoftResetQuiet := by
      refine hs.keep_of_frame (by simp) (by simp) (fun v hv => ?_) (by simp) (by simp) (by simp)
      rw [State.removeHeadRecord_rxQueue]
      split
      next heq => exact heq ▸ hv
      next => exact hv
    refine hgone.afterRemoval (hpool.keep (State.gains_removeHeadRecord q) (by simp)) fun u hu => ?_
    rw [State.txQueue_congr (t := s) (by simp)]
    exact hhead u (by simpa using hu)
  case softResetTxRemoval u hsoft hplace =>
    have hrunning := State.softResetting_iff.mp hsoft
    have hguarded : s.Guarded := State.guarded_iff.mpr ⟨hhead, fun v e setBack hwaiting =>
      absurd hwaiting (hs.not_waiting hrunning)⟩
    have hstate : (s.discardOldest u).txf = s.txf := by
      have hnot : s.headWaiting u = false := by
        unfold State.headWaiting
        split
        next hwaiting => exact absurd hwaiting (hs.not_waiting hrunning)
        next => rfl
      simp [State.discardOldest, hnot]
    have hgone : (s.discardOldest u).SoftResetQuiet :=
      hframe (by simp) (by rw [hstate]) (by simp) (by simp) (by simp) (by simp)
    exact hgone.afterRemoval (hpool.keep (State.gains_discardOldest u) (by simp))
      (State.guarded_iff.mp (hguarded.discardOldest u)).1

/-- Settles O59: states alike are quiet alike, and every move keeps a quiet state quiet. -/
theorem everyStepKeepsSoftResetQuiet : Obligations.EveryStepKeepsSoftResetQuiet := by
  intro s t hquiet hflags hhead hfits hpool hstep
  have halike {x y : State} (h : x.Alike y) (hx : x.SoftResetQuiet) : y.SoftResetQuiet :=
    hx.keep_of_frame h.running (by rw [h.txf]) (fun q hoff => by rwa [State.rxQueue_congr h.rxq])
      (fun hnone => Option.map_eq_none_iff.mp (by rw [h.window, hnone]; rfl))
      (fun hnone => Option.map_eq_none_iff.mp (by rw [h.staging, hnone]; rfl)) h.rxf
  obtain h | ⟨s', t', hs', hmoves, ht'⟩ := step_leads hstep
  · exact halike h hquiet
  · refine halike ht' (hmoves.softResetQuiet (halike hs' hquiet) (hs'.flushFlagsAgree hflags) (fun u hu => ?_)
      (hs'.conserved ⟨hpool, hfits⟩))
    rw [State.txQueue_congr hs'.txq]
    exact hhead u (hs'.txf ▸ hu)

/-! ### The state after reset -/

/-- Settles O60: after reset every queue is empty and OFF, everything is free, and nothing is in flight. -/
theorem resetMeetsTheInvariants : Obligations.ResetMeetsTheInvariants := by
  have hidle : State.reset.txf.state = .idle := rfl
  have hrx (q : RxQueueId) : State.reset.rxQueue q = RxQueue.reset := State.hardwareReset_rxQueue _ _ q
  have htx (u : TxQueueId) : State.reset.txQueue u = TxQueue.reset := State.hardwareReset_txQueue _ _ u
  have horderly : State.reset.TxOrderly := fun u => by
    rw [htx]
    exact ⟨by decide, List.Pairwise.nil, by decide, by decide, fun k hk => by cases hk⟩
  have hahead (q : RxQueueId) : (State.reset.rxQueue q).Ahead State.reset.time.now := by
    rw [hrx]
    exact RxQueue.ahead_invariant.reset
  have hsound (q : RxQueueId) : (State.reset.rxQueue q).Sound := by
    rw [hrx]
    exact RxQueue.sound_invariant.reset
  have hflags : State.reset.FlushFlagsAgree :=
    .of_running (fun q => by rw [hrx]; rfl) (fun u => by rw [htx]; rfl) (.inl rfl)
  have hlaunch : State.reset.LaunchesAhead := fun u e he => by rw [htx] at he; cases he
  obtain ⟨hrange, hrefs⟩ := TimeBase.Bounded.reset
  obtain ⟨hpool, hfits⟩ := State.hardwareReset_conserved false []
  obtain ⟨hdepths, hlaunches, hattempts⟩ := State.txOrderly_iff.mp horderly
  obtain ⟨hhead, hdeadline⟩ := State.guarded_iff.mp (State.guarded_of_idle hidle)
  exact ⟨hpool, hfits, hrange, ⟨hrefs, Nat.zero_le 32⟩, fun q => (hsound q).1, fun q => (hsound q).2, hdepths, hlaunches,
    hattempts, hflags, State.openIsHead_of_closed rfl, State.nothingToSelect_of_off rfl, hhead,
    ⟨fun q => (hahead q).start, fun q => (hahead q).stop, hlaunch, hdeadline⟩,
    State.softResetQuiet_of_other nofun nofun⟩

end Sys2Proof.Machine
end

section
/-! Proofs about the edges of TCLK: what an edge changes, and what its change of link time brings about at the receive
queues (R1 to R4, R8, R76 to R78; log 5, log 9). -/

namespace Sys2Proof.Machine

variable {s t : State} {r : RxQueue} {old new : LinkTime}

/-! ### A change of link time that reaches nothing -/

theorem LinkTime.reachedBy_of_before {T : LinkTime} (h : new.before T = true) : T.reachedBy old new = false := by
  simp [LinkTime.reachedBy, LinkTime.reachedAt, h]

/-- A queue whose watchers lie ahead of the new time is left as it is (R76, R77). -/
theorem RxQueue.Ahead.timeChange_eq_self (h : r.Ahead new) : r.timeChange old new = r := by
  rw [RxQueue.timeChange_eq,
    RxQueue.startChange_of_ahead fun T hT => LinkTime.reachedBy_of_before (h.start T hT)]
  by_cases hend : r.state = .stopped .windowEnd
  · cases hwatched : r.stopWatched with
    | none => exact RxQueue.stopChange_of_ahead fun T hT => by rw [hwatched] at hT; cases hT
    | some T =>
      cases hreached : T.reachedBy old new with
      | true => rw [RxQueue.stopChange_of_reached hwatched hreached, RxQueue.reachStop, hend]
      | false =>
        refine RxQueue.stopChange_of_ahead fun U hU => ?_
        cases hwatched.symm.trans hU
        exact hreached
  · exact RxQueue.stopChange_of_ahead fun T hT => LinkTime.reachedBy_of_before (h.stop T hT hend)

/-- So is an entry that is due, or whose launch time lies ahead (R131). -/
theorem TxEntry.timeChange_eq_self {e : TxEntry} (h : ∀ T, e.launch = some T → e.due = false → new.before T = true) :
    e.timeChange old new = e := by
  cases hlaunch : e.launch with
  | none => simp only [TxEntry.timeChange, hlaunch]
  | some T =>
    have hdue : (e.due || T.reachedBy old new) = e.due := by
      cases hdue : e.due with
      | true => rfl
      | false => rw [LinkTime.reachedBy_of_before (h T hlaunch hdue)]; rfl
    simp only [TxEntry.timeChange, hlaunch, hdue]
    rw [← hlaunch]

theorem State.map_rxq_eq_self {f : RxQueue → RxQueue} (h : ∀ q, f (s.rxQueue q) = s.rxQueue q) : s.rxq.map f = s.rxq :=
  Vector.ext fun i hi => by rw [Vector.getElem_map]; exact h ⟨i, hi⟩

theorem State.map_txq_eq_self {f : TxQueue → TxQueue} (h : ∀ u, f (s.txQueue u) = s.txQueue u) : s.txq.map f = s.txq :=
  Vector.ext fun i hi => by rw [Vector.getElem_map]; exact h ⟨i, hi⟩

/-- A release leaves the watcher answered (R12). -/
theorem LinkTime.releasedBy_of_not_releasedAt {T : LinkTime} {setBack : Bool} (h : T.releasedAt new setBack = false) :
    T.releasedBy old new setBack = false := by
  rw [← Bool.not_eq_true, LinkTime.releasedAt_iff] at h
  rw [← Bool.not_eq_true, LinkTime.releasedBy_iff, LinkTime.passedBy_iff]
  rintro (⟨-, hpassed⟩ | ⟨hback, hlast, -, hreached⟩)
  · exact h (.inl hpassed)
  · exact h (.inr ⟨hback, hlast, hreached⟩)

/-- A flush with work left does not complete (R125). -/
theorem State.FlushHasWork.completeTxFlush (h : s.FlushHasWork) : s.completeTxFlush = s := by
  unfold State.completeTxFlush
  split
  next u hrunning =>
    obtain ⟨hentries, hlast⟩ := h u hrunning
    have hwork : s.flushDone u = false := by
      unfold State.flushDone
      split
      next hempty => exact absurd hempty hentries
      next hone =>
        split
        next a hsending => simpa using hlast (by rw [hone]; rfl) a hsending
        next => rfl
      next => rfl
    simp [hwork]
  next => rfl

/-- A change of link time that reaches no watcher changes nothing (R11). -/
theorem State.timeChange_eq_self (hahead : s.WatchersAhead) (hnow : s.time.now = new) (hselect : s.NothingToSelect)
    (hflush : s.FlushHasWork) : s.timeChange old new = s := by
  obtain ⟨hstart, hstop, hlaunch, hdeadline⟩ := hahead
  subst hnow
  have hwatched : s.watched old s.time.now = s := by
    have hrx := State.map_rxq_eq_self (s := s) (f := RxQueue.timeChange old s.time.now) fun q =>
      RxQueue.Ahead.timeChange_eq_self ⟨hstart q, hstop q⟩
    have htx := State.map_txq_eq_self (s := s) (f := TxQueue.timeChange old s.time.now) fun u => by
      have hentries : (s.txQueue u).entries.map (TxEntry.timeChange old s.time.now) = (s.txQueue u).entries :=
        (List.map_congr_left fun e he => TxEntry.timeChange_eq_self (hlaunch u e he)).trans (List.map_id _)
      rw [TxQueue.timeChange, hentries]
    rw [State.watched, hrx, htx]
  rw [State.timeChange_eq, hwatched, State.deadlineChange_of_ahead, State.afterTransmit, hflush.completeTxFlush,
    s.select_of_none hselect]
  intro u setBack d hwaiting hd
  obtain ⟨e, hhead, hed⟩ := Option.bind_eq_some_iff.mp hd
  have hkept := hdeadline u e setBack hwaiting hhead
  rw [TxEntry.releasedAt, hed] at hkept
  exact LinkTime.releasedBy_of_not_releasedAt hkept

/-! ### The edges (R1 to R4, R8) -/

/-- An event raised under a condition is a condition on the event status. -/
theorem State.raiseIf_eq (s : State) (c : Bool) (e : Event) :
    s.raiseIf c e = { s with irq := { s.irq with status := if c then s.irq.status ||| e.mask else s.irq.status } } := by
  cases c <;> rfl

theorem TimeBase.atBoundary_iff {b : TimeBase} : b.atBoundary = true ↔ b.now.fine.toNat + 1 = b.divisor.toNat := by
  simp [TimeBase.atBoundary]

theorem exec_tclkEdge_inside (hreset : s.inReset = false) (hinside : s.time.atBoundary = false) :
    exec .tclkEdge s = .next s.takeCountingEdge := by
  change execTclkEdge s = _
  simp [execTclkEdge, State.unlessReset_of_released _ hreset, hinside]

theorem exec_edge_at_boundary (hreset : s.inReset = false) (hboundary : s.time.atBoundary = true) {c : Instr}
    (hc : c = .tclkEdge ∨ c = .coarseBoundary) : exec c s = .next s.takeBoundary := by
  obtain rfl | rfl := hc
  · change execTclkEdge s = _
    simp [execTclkEdge, State.unlessReset_of_released _ hreset, hboundary]
  · change execCoarseBoundary s = _
    simp [execCoarseBoundary, State.unlessReset_of_released _ hreset, hboundary]

theorem exec_coarseBoundary_inside (hreset : s.inReset = false) (hinside : s.time.atBoundary = false) :
    exec .coarseBoundary s = .next s := by
  change execCoarseBoundary s = _
  simp [execCoarseBoundary, State.unlessReset_of_released _ hreset, hinside]

/-- The event status after a counting edge: SLEW_DONE if a slew step ends the slew (R8). -/
def State.countedStatus (s : State) : BitVec 12 :=
  if s.time.slewEnds then s.irq.status ||| 0x040 else s.irq.status

theorem State.takeCountingEdge_eq : s.takeCountingEdge =
    ({ s with time := s.time.countEdge, irq := { s.irq with status := s.countedStatus } } : State).timeChange s.time.now
      s.time.countEdge.now := by
  rw [State.takeCountingEdge, State.raiseIf_eq]
  rfl

section

variable {b : TimeBase}

theorem TimeBase.countEdge_ordinary (h : b.firstEdge = false ∨ b.slew = 0) :
    b.countEdge = { b with now := ⟨b.now.coarse, b.now.fine + 1⟩, firstEdge := false } ∧ b.slewEnds = false := by
  have hdue : b.slewStepDue = false := by
    obtain hfirst | hslew := h
    · simp [TimeBase.slewStepDue, hfirst]
    · simp [TimeBase.slewStepDue, hslew]
  exact ⟨by simp [TimeBase.countEdge, hdue], by simp [TimeBase.slewEnds, hdue]⟩

theorem TimeBase.countEdge_forward (hfirst : b.firstEdge = true) (hslew : 0 < b.slew) :
    b.countEdge = { b with now := ⟨b.now.coarse, 2⟩, slew := b.slew - 1, firstEdge := false } ∧
      b.slewEnds = decide (b.slew = 1) := by
  have hdue : b.slewStepDue = true := by
    simp only [TimeBase.slewStepDue, hfirst, Bool.true_and, bne_iff_ne, ne_eq]
    omega
  have hcount : b.countEdge = { b with now := ⟨b.now.coarse, 2⟩, slew := b.slew - 1, firstEdge := false } := by
    simp [TimeBase.countEdge, hdue, hslew]
  refine ⟨hcount, ?_⟩
  rw [TimeBase.slewEnds, hdue, hcount, Bool.true_and, Bool.eq_iff_iff, beq_iff_eq, decide_eq_true_iff]
  dsimp only
  omega

theorem TimeBase.countEdge_backward (hfirst : b.firstEdge = true) (hslew : b.slew < 0) :
    b.countEdge = { b with slew := b.slew + 1, firstEdge := false } ∧ b.slewEnds = decide (b.slew = -1) := by
  have hdue : b.slewStepDue = true := by
    simp only [TimeBase.slewStepDue, hfirst, Bool.true_and, bne_iff_ne, ne_eq]
    omega
  have hcount : b.countEdge = { b with slew := b.slew + 1, firstEdge := false } := by
    simp [TimeBase.countEdge, hdue, show ¬0 < b.slew by omega]
  refine ⟨hcount, ?_⟩
  rw [TimeBase.slewEnds, hdue, hcount, Bool.true_and, Bool.eq_iff_iff, beq_iff_eq, decide_eq_true_iff]
  dsimp only
  omega

end

/-- Settles O9: the three kinds of counting edge, each with its time base and its event status. -/
theorem countingEdgeChangesOnlyTheTimeBase : Obligations.CountingEdgeChangesOnlyTheTimeBase := by
  intro s b v hreset hnot hordinary hforward hbackward x
  have hinside : s.time.atBoundary = false := Bool.eq_false_iff.mpr fun h => hnot (TimeBase.atBoundary_iff.mp h)
  have hedge : b = s.time.countEdge ∧ v = s.countedStatus := by
    unfold State.countedStatus
    by_cases hcase : s.time.firstEdge = false ∨ s.time.slew = 0
    · obtain ⟨hcount, hends⟩ := TimeBase.countEdge_ordinary hcase
      obtain ⟨hb, hv⟩ := hordinary hcase
      simp [hcount, hends, hb, hv]
    · have hfirst : s.time.firstEdge = true := by simpa using fun h => hcase (.inl h)
      obtain hslew | hslew := Int.lt_or_gt_of_ne fun h => hcase (.inr h)
      · obtain ⟨hcount, hends⟩ := TimeBase.countEdge_backward hfirst hslew
        obtain ⟨hb, hv⟩ := hbackward hfirst hslew
        simp [hcount, hends, hb, hv]
      · obtain ⟨hcount, hends⟩ := TimeBase.countEdge_forward hfirst hslew
        obtain ⟨hb, hv⟩ := hforward hfirst hslew
        simp [hcount, hends, hb, hv]
  have hexec : exec .tclkEdge s = .next (x.timeChange s.time.now b.now) := by
    rw [exec_tclkEdge_inside hreset hinside, State.takeCountingEdge_eq, ← hedge.1, ← hedge.2]
  refine ⟨hexec, fun hahead hselect hflush => ?_⟩
  rw [hexec, State.timeChange_eq_self hahead rfl (hselect.keep rfl rfl id) hflush]

/-- The event status after a boundary: TIME_APPLIED if something pending applied (R4). -/
def State.boundaryStatus (s : State) : BitVec 12 :=
  if s.time.pendingSet = none ∧ s.time.pendingDivisor = none then s.irq.status else s.irq.status ||| 0x020

theorem State.takeBoundary_eq : s.takeBoundary =
    ({ s with time := s.time.boundary, txf := s.noteBoundary.txf,
              irq := { s.irq with status := s.boundaryStatus } } : State).timeChange s.time.now s.time.boundary.now := by
  have hstatus : (if s.time.applies then s.irq.status ||| Event.timeApplied.mask else s.irq.status) =
      s.boundaryStatus := by
    unfold State.boundaryStatus TimeBase.applies
    cases s.time.pendingSet <;> cases s.time.pendingDivisor <;> rfl
  rw [State.takeBoundary, State.raiseIf_eq, ← hstatus]
  unfold State.noteBoundary
  split <;> rfl

theorem State.noteBoundary_txf (s : State) :
    s.noteBoundary.txf = { s.txf with state := s.noteBoundary.txf.state } := by
  unfold State.noteBoundary
  split <;> rfl

theorem State.noteBoundary_of_no_set (hset : s.time.pendingSet = none) : s.noteBoundary = s := by
  simp [State.noteBoundary, TimeBase.setsBack, hset]

theorem State.noteBoundary_of_forward {v : BitVec 32} (hset : s.time.pendingSet = some v)
    (hforward : s.time.now.before ⟨v, 0⟩ = true) : s.noteBoundary = s := by
  have hsets : s.time.setsBack = false := by simp only [TimeBase.setsBack, hset, hforward, Bool.not_true]
  rw [State.noteBoundary, if_neg (by rw [hsets]; nofun)]

theorem State.noteBoundary_of_backward {v : BitVec 32} (hset : s.time.pendingSet = some v)
    (hback : s.time.now.before ⟨v, 0⟩ = false) : s.noteBoundary = s.setTxFramer s.txf.state.noteSetBack := by
  have hsets : s.time.setsBack = true := by simp only [TimeBase.setsBack, hset, hback, Bool.not_false]
  rw [State.noteBoundary, if_pos hsets]

/-- Settles O10: the boundary's time base and event status, and the framer that notes a backward set. -/
theorem boundaryAppliesWhatIsPending : Obligations.BoundaryAppliesWhatIsPending := by
  intro s b c hreset hboundary hset hcount hc framer x
  have hb : b = s.time.boundary := by
    cases hpending : s.time.pendingSet with
    | none =>
      rw [hcount hpending]
      simp only [TimeBase.boundary, hpending]
      rfl
    | some v =>
      rw [hset v hpending]
      simp only [TimeBase.boundary, hpending]
  have hframer : s.noteBoundary.txf.state = framer := by
    simp only [framer]
    cases hpending : s.time.pendingSet with
    | none =>
      rw [State.noteBoundary_of_no_set hpending]
      cases hstate : s.txf.state with
      | idle | sending => rfl
      | waitingLine t armed setBack => cases armed <;> rfl
    | some v =>
      cases hbefore : s.time.now.before ⟨v, 0⟩ with
      | true =>
        rw [State.noteBoundary_of_forward hpending hbefore]
        cases hstate : s.txf.state with
        | idle | sending => rfl
        | waitingLine t armed setBack =>
          cases armed
          · rfl
          · simp only [hbefore, Bool.not_true, Bool.or_false]
      | false =>
        rw [State.noteBoundary_of_backward hpending hbefore, State.setTxFramer_txf]
        cases hstate : s.txf.state with
        | idle | sending => rfl
        | waitingLine t armed setBack =>
          cases armed
          · rfl
          · simp only [hbefore, Bool.not_false, Bool.or_true, TxFramerState.noteSetBack]
  have hexec : exec c s = .next (x.timeChange s.time.now b.now) := by
    rw [exec_edge_at_boundary hreset (TimeBase.atBoundary_iff.mpr hboundary) hc, State.takeBoundary_eq,
      State.noteBoundary_txf, hframer, ← hb]
    rfl
  refine ⟨hexec, fun hahead hselect hflush => ?_⟩
  have hnoted : framer = s.txf.state ∨ framer = s.txf.state.noteSetBack := by
    rw [← hframer]
    unfold State.noteBoundary
    split
    · exact .inr rfl
    · exact .inl rfl
  have hsending (a : Attempt) : framer = .sending a ↔ s.txf.state = .sending a := by
    obtain h | h := hnoted <;> rw [h]
    exact TxFramerState.noteSetBack_sending
  have hidle : framer = .idle → s.txf.state = .idle := by
    obtain h | h := hnoted <;> rw [h]
    · exact id
    · unfold TxFramerState.noteSetBack
      split
      · nofun
      · exact id
  have hnothing : x.NothingToSelect := by
    unfold State.NothingToSelect at hselect ⊢
    rw [State.selects_eq_none_iff] at hselect ⊢
    exact hselect.imp_left fun hbusy hnow => hbusy (hidle hnow)
  have hwork : x.FlushHasWork := fun u hrunning => by
    obtain ⟨hentries, hlast⟩ := hflush u hrunning
    exact ⟨hentries, fun hone a ha => hlast hone a ((hsending a).mp ha)⟩
  rw [hexec, State.timeChange_eq_self hahead rfl hnothing hwork]

/-! ### The receive queues (R76 to R78) -/

/-- A change of link time reaches the start time that a PENDING queue waits for. -/
def RxQueue.StartsBy (old new : LinkTime) (r : RxQueue) : Prop :=
  ∃ T, r.state = .pending ∧ r.window.start = .atTime T ∧ old.before T = true ∧ new.before T = false

/-- A change of link time reaches the stop time of a queue that is on. -/
def RxQueue.StopsBy (old new : LinkTime) (r : RxQueue) : Prop :=
  ∃ S, r.state ≠ .off ∧ r.window.stop = some S ∧ old.before S = true ∧ new.before S = false

theorem LinkTime.reachedBy_eq (T old new : LinkTime) :
    T.reachedBy old new = true ↔ old.before T = true ∧ new.before T = false := by
  simp [LinkTime.reachedBy, LinkTime.reachedAt]

theorem RxQueue.startChange_of_starts (h : r.StartsBy old new) : r.startChange old new = r.startRunning := by
  obtain ⟨T, hpending, hstart, hbefore, hreached⟩ := h
  exact RxQueue.startChange_of_reached (RxQueue.startWatched_eq_some.mpr ⟨hpending, hstart⟩)
    ((LinkTime.reachedBy_eq T old new).mpr ⟨hbefore, hreached⟩)

theorem RxQueue.startChange_of_not_starts (h : ¬r.StartsBy old new) : r.startChange old new = r := by
  refine RxQueue.startChange_of_ahead fun T hT => Bool.eq_false_iff.mpr fun hreached => h ?_
  obtain ⟨hpending, hstart⟩ := RxQueue.startWatched_eq_some.mp hT
  obtain ⟨hbefore, hnew⟩ := (LinkTime.reachedBy_eq T old new).mp hreached
  exact ⟨T, hpending, hstart, hbefore, hnew⟩

theorem RxQueue.stopChange_of_stops (h : r.StopsBy old new) : r.stopChange old new = r.reachStop := by
  obtain ⟨S, hon, hstop, hbefore, hreached⟩ := h
  exact RxQueue.stopChange_of_reached (RxQueue.stopWatched_eq_some.mpr ⟨hon, hstop⟩)
    ((LinkTime.reachedBy_eq S old new).mpr ⟨hbefore, hreached⟩)

theorem RxQueue.stopChange_of_not_stops (h : ¬r.StopsBy old new) : r.stopChange old new = r := by
  refine RxQueue.stopChange_of_ahead fun S hS => Bool.eq_false_iff.mpr fun hreached => h ?_
  obtain ⟨hon, hstop⟩ := RxQueue.stopWatched_eq_some.mp hS
  obtain ⟨hbefore, hnew⟩ := (LinkTime.reachedBy_eq S old new).mp hreached
  exact ⟨S, hon, hstop, hbefore, hnew⟩

theorem RxQueue.startRunning_state : r.startRunning.state = .run := rfl

/-- A queue that started is on, and has the stop time it had. -/
theorem RxQueue.startRunning_stopsBy (hstarts : r.StartsBy old new) :
    r.startRunning.StopsBy old new ↔ r.StopsBy old new := by
  obtain ⟨T, hpending, -⟩ := hstarts
  refine ⟨fun ⟨S, _, hstop, hrest⟩ => ⟨S, by simp [hpending], hstop, hrest⟩,
    fun ⟨S, _, hstop, hrest⟩ => ⟨S, nofun, hstop, hrest⟩⟩

theorem RxQueue.reachStop_of_windowEnd (h : r.state = .stopped .windowEnd) : r.reachStop = r := by
  simp only [RxQueue.reachStop, h]

theorem RxQueue.reachStop_of_other (hon : r.state ≠ .off) (hnot : r.state ≠ .stopped .windowEnd) :
    r.reachStop = { r with state := .stopped .windowEnd, events := r.events ||| 0x20 } := by
  unfold RxQueue.reachStop
  split
  next h => exact absurd h hon
  next h => exact absurd h hnot
  next => rfl

/-- What an edge makes of link time and of each receive queue. -/
theorem exec_edge_rxQueue (hreset : s.inReset = false) {c : Instr} (hc : c = .tclkEdge ∨ c = .coarseBoundary) :
    ∃ t, exec c s = .next t ∧ ((∀ q, t.rxQueue q = (s.rxQueue q).timeChange s.time.now t.time.now) ∨ t = s) := by
  cases hboundary : s.time.atBoundary with
  | true =>
    refine ⟨_, exec_edge_at_boundary hreset hboundary hc, .inl fun q => ?_⟩
    rw [State.rxQueue_congr (t := { s with rxq := s.rxq.map _ }) s.takeBoundary_rxq, State.rxQueue_map]
    simp [State.takeBoundary]
  | false =>
    obtain rfl | rfl := hc
    · refine ⟨_, exec_tclkEdge_inside hreset hboundary, .inl fun q => ?_⟩
      rw [State.rxQueue_congr (t := { s with rxq := s.rxq.map _ }) s.takeCountingEdge_rxq, State.rxQueue_map]
      simp [State.takeCountingEdge]
    · exact ⟨s, exec_coarseBoundary_inside hreset hboundary, .inr rfl⟩

theorem exec_startTimeReached (hreset : s.inReset = false) {q : RxQueueId} {T : LinkTime}
    (hwatched : (s.rxQueue q).startWatched = some T) (hreached : T.reachedAt s.time.now = true) :
    exec (.startTimeReached q) s = .next (s.setRxQueue q (s.rxQueue q).startRunning) := by
  change execStartTimeReached q s = _
  simp [execStartTimeReached, State.unlessReset_of_released _ hreset, hwatched, hreached]

theorem exec_stopTimeReached (hreset : s.inReset = false) {q : RxQueueId} {T : LinkTime}
    (hwatched : (s.rxQueue q).stopWatched = some T) (hreached : T.reachedAt s.time.now = true) :
    exec (.stopTimeReached q) s = .next (s.setRxQueue q (s.rxQueue q).reachStop) := by
  change execStopTimeReached q s = _
  simp [execStopTimeReached, State.unlessReset_of_released _ hreset, hwatched, hreached]

theorem State.setRxQueue_self (q : RxQueueId) : s.setRxQueue q (s.rxQueue q) = s := by
  simp [State.setRxQueue, State.rxQueue]

/-- Settles O11: the rows of the watchers are the owner's transition, and an edge is the start and then the stop of each
queue. -/
theorem receiveQueuesStartAndStopInLinkTime : Obligations.ReceiveQueuesStartAndStopInLinkTime := by
  refine ⟨fun s q hreset => ⟨fun T hpending hstart hreached => ?_, fun T hon hstop hreached => ?_⟩,
    fun s c hc hreset => ?_⟩
  · exact exec_startTimeReached hreset (RxQueue.startWatched_eq_some.mpr ⟨hpending, hstart⟩)
      (by simp [LinkTime.reachedAt, hreached])
  · rw [exec_stopTimeReached hreset (RxQueue.stopWatched_eq_some.mpr ⟨hon, hstop⟩)
      (by simp [LinkTime.reachedAt, hreached])]
    split
    next hend => rw [RxQueue.reachStop_of_windowEnd hend, State.setRxQueue_self]
    next hnot => rw [RxQueue.reachStop_of_other hon hnot]
  · obtain ⟨t, hexec, hqueue⟩ := exec_edge_rxQueue hreset hc
    refine ⟨t, hexec, fun q => ?_⟩
    intro r starts stops
    have hstarts : starts ↔ r.StartsBy s.time.now t.time.now := Iff.rfl
    have hstops : stops ↔ r.StopsBy s.time.now t.time.now := Iff.rfl
    obtain hqueue | rfl := hqueue
    · rw [hqueue q, RxQueue.timeChange_eq]
      refine ⟨fun hs hn => ?_, fun hs hp => ?_, fun hn hp hnot => ?_, fun hn hquiet => ?_⟩
      · rw [RxQueue.startChange_of_starts hs,
          RxQueue.stopChange_of_not_stops (mt (RxQueue.startRunning_stopsBy hs).mp hn)]
        rfl
      · rw [RxQueue.startChange_of_starts hs, RxQueue.stopChange_of_stops ((RxQueue.startRunning_stopsBy hs).mpr hp),
          RxQueue.reachStop_of_other (by rw [RxQueue.startRunning_state]; nofun)
            (by rw [RxQueue.startRunning_state]; nofun)]
        simp only [RxQueue.startRunning, RxQueue.raise, BitVec.or_assoc]
        rfl
      · obtain ⟨S, hon, -⟩ := id hp
        rw [RxQueue.startChange_of_not_starts hn, RxQueue.stopChange_of_stops hp, RxQueue.reachStop_of_other hon hnot]
      · rw [RxQueue.startChange_of_not_starts hn]
        by_cases hp : stops
        · rw [RxQueue.stopChange_of_stops hp, RxQueue.reachStop_of_windowEnd (hquiet.resolve_left fun h => h hp)]
        · exact RxQueue.stopChange_of_not_stops hp
    · have hnever (T : LinkTime) : ¬(t.time.now.before T = true ∧ t.time.now.before T = false) := by simp
      have hnot : ¬starts := fun ⟨T, _, _, hboth⟩ => hnever T hboth
      have hno : ¬stops := fun ⟨T, _, _, hboth⟩ => hnever T hboth
      exact ⟨fun hs => absurd hs hnot, fun hs => absurd hs hnot, fun _ hp => absurd hp hno, fun _ _ => rfl⟩

end Sys2Proof.Machine
end


section
/-! Proofs about the commands of the transmit side that a selection follows: TX_SUBMIT, TX_START, LINE_TX and TX_CANCEL
(R116, R120 to R122, R144). -/

namespace Sys2Proof.Machine

variable {s x : State} {t : TxQueueId} {e : TxEntry} {rest : List TxEntry}

/-! ### A selection and the command that it follows -/

theorem State.appendReport_acceptCommand (r : Report) (code : Word) :
    (s.acceptCommand code).appendReport r = (s.appendReport r).acceptCommand code := by
  simp only [State.appendReport, State.raiseIf_eq, State.acceptCommand_reports, State.acceptCommand_irq]
  split <;> rfl

theorem State.leaveWithReport_of_none {place : Nat} (hentry : (s.txQueue t).entries[place]? = none) (r : ReportResult) :
    s.leaveWithReport t place r = s := by
  simp only [State.leaveWithReport, hentry]

theorem State.leaveWithReport_acceptCommand (t : TxQueueId) (place : Nat) (r : ReportResult) (code : Word) :
    (s.acceptCommand code).leaveWithReport t place r = (s.leaveWithReport t place r).acceptCommand code := by
  cases hentry : (s.txQueue t).entries[place]? with
  | none => rw [State.leaveWithReport_of_none hentry, State.leaveWithReport_of_none (s := s.acceptCommand code) hentry]
  | some e =>
    rw [State.leaveWithReport_of_some hentry, State.leaveWithReport_of_some (s := s.acceptCommand code) hentry,
      State.appendReport_acceptCommand]
    rfl

theorem State.enterWaiting_of_nil (hentries : (s.txQueue t).entries = []) : s.enterWaiting t = s.setTxFramer .idle := by
  simp only [State.enterWaiting, hentries]

theorem State.enterWaiting_acceptCommand (t : TxQueueId) (code : Word) :
    (s.acceptCommand code).enterWaiting t = (s.enterWaiting t).acceptCommand code := by
  cases hentries : (s.txQueue t).entries with
  | nil => rw [State.enterWaiting_of_nil hentries, State.enterWaiting_of_nil (s := s.acceptCommand code) hentries]; rfl
  | cons e rest =>
    cases hlate : e.armsDeadline (s.txQueue t).config && e.lateAt (s.txQueue t).config s.time.now with
    | false =>
      rw [State.enterWaiting_of_waits hentries hlate,
        State.enterWaiting_of_waits (s := s.acceptCommand code) hentries hlate]
      rfl
    | true =>
      rw [State.enterWaiting_of_late hentries hlate,
        State.enterWaiting_of_late (s := s.acceptCommand code) hentries hlate, State.finishEntry,
        State.leaveWithReport_acceptCommand]
      rfl

theorem selectLoop_acceptCommand (n : Nat) (s : State) (code : Word) :
    selectLoop n (s.acceptCommand code) = (selectLoop n s).acceptCommand code := by
  induction n generalizing s with
  | zero => rfl
  | succ n ih =>
    have hselects : (s.acceptCommand code).selects = s.selects := rfl
    unfold selectLoop
    rw [hselects]
    cases s.selects with
    | none => rfl
    | some t =>
      dsimp only
      rw [State.enterWaiting_acceptCommand, ih]

/-- The command that a selection follows has been accepted before it, and the selection does not see that. -/
theorem State.select_acceptCommand (code : Word) : (s.acceptCommand code).select = s.select.acceptCommand code :=
  selectLoop_acceptCommand _ s code

theorem State.afterTransmit_of_noTxFlush (h : s.NoTxFlush) : s.afterTransmit = s.select := by
  rw [State.afterTransmit, s.completeTxFlush_of_idle h]

theorem State.noTxFlush_of_idle (h : s.cmd.running = none) : s.NoTxFlush := fun t => by rw [h]; nofun

/-- What follows a command in the same change is a selection: no flush is running. -/
theorem State.afterTransmit_acceptCommand (hidle : s.cmd.running = none) (code : Word) :
    (s.acceptCommand code).afterTransmit = s.select.acceptCommand code := by
  rw [State.afterTransmit_of_noTxFlush (State.noTxFlush_of_idle (s := s.acceptCommand code) hidle),
    State.select_acceptCommand]

/-! ### When no selection follows, and when the only candidate is selected -/

theorem State.TransmitterHolds.select_eq_self (h : s.TransmitterHolds) (hframer : x.txf = s.txf) : x.select = x := by
  unfold State.TransmitterHolds at h
  refine x.select_of_none (State.selects_eq_none_iff.mpr ?_)
  rw [hframer]
  exact h.imp_right .inl

theorem State.NothingFollows.select_eq_self (h : s.NothingFollows t rest) (hline : x.txf.lineTx = s.txf.lineTx)
    (hleft : x.txQueue t = { s.txQueue t with entries := rest }) (hother : ∀ u, u ≠ t → x.txQueue u = s.txQueue u) :
    x.select = x := by
  refine x.select_of_none (State.selects_eq_none_iff.mpr ?_)
  obtain hoff | ⟨hnone, hothers⟩ := h
  · exact .inr (.inl (hline.trans hoff))
  · refine .inr (.inr (.inr fun u => ?_))
    by_cases hu : u = t
    · rw [hu, hleft, hnone]
    · rw [hother u hu, hothers u hu]

/-- The only candidate is the one selected. -/
theorem State.selects_of_only (hidle : s.txf.state = .idle) (hon : s.txf.lineTx = true)
    (hquiet : s.cmd.running ≠ some .softReset) (hhead : (s.txQueue t).dueHead = some e)
    (hother : ∀ u, u ≠ t → (s.txQueue u).dueHead = none) : s.selects = some t := by
  cases hselects : s.selects with
  | none =>
    obtain hbusy | hoff | hsoft | hnone := State.selects_eq_none_iff.mp hselects
    · exact absurd hidle hbusy
    · rw [hon] at hoff; cases hoff
    · exact absurd hsoft hquiet
    · rw [hnone t] at hhead; cases hhead
  | some u =>
    obtain ⟨e', rest', hentries, hdue, hpaused, hflush, -⟩ := State.selects_due hselects
    have hdueHead := TxQueue.dueHead_eq_some.mpr ⟨rest', hentries, hdue, hpaused, hflush⟩
    by_cases hu : u = t
    · rw [hu]
    · rw [hother u hu] at hdueHead; cases hdueHead

/-- An immediate head that is the only candidate enters WAITING_LINE with no watcher (R133). -/
theorem State.select_of_only_immediate (hidle : s.txf.state = .idle) (hon : s.txf.lineTx = true)
    (hquiet : s.cmd.running ≠ some .softReset) (hentries : (s.txQueue t).entries = e :: rest) (hdue : e.due = true)
    (hlaunch : e.launch = none) (hpaused : (s.txQueue t).paused = false) (hflush : (s.txQueue t).flush = false)
    (hother : ∀ u, u ≠ t → (s.txQueue u).dueHead = none) : s.select = s.setTxFramer (.waitingLine t false false) := by
  have hhead := TxQueue.dueHead_eq_some.mpr ⟨rest, hentries, hdue, hpaused, hflush⟩
  have harms : e.armsDeadline (s.txQueue t).config = false := by simp [TxEntry.armsDeadline, hlaunch]
  rw [State.select_of_waits (State.selects_of_only hidle hon hquiet hhead hother) hentries (by rw [harms]; rfl), harms]

/-! ### TX_SUBMIT (R116) -/

theorem TxQueue.breaksOrder_iff {q : TxQueue} {launch : Option LinkTime} :
    q.breaksOrder launch = true ↔
      ∃ T U, launch = some T ∧ (∃ e ∈ q.entries, e.launch = some U) ∧ T.before U = true := by
  cases launch with
  | none => simp [TxQueue.breaksOrder]
  | some T =>
    rw [TxQueue.breaksOrder, List.any_eq_true]
    constructor
    · rintro ⟨e, he, hbefore⟩
      cases hlaunch : e.launch with
      | none => simp only [hlaunch] at hbefore; cases hbefore
      | some U => simp only [hlaunch] at hbefore; exact ⟨T, U, rfl, ⟨e, he, hlaunch⟩, hbefore⟩
    · rintro ⟨T', U, hT, ⟨e, he, hlaunch⟩, hbefore⟩
      cases hT
      exact ⟨e, he, by simpa only [hlaunch] using hbefore⟩

/-- The state in which the staging record has joined the tail of its queue, before the selection. -/
def State.submitted (s : State) (r : StagingRecord) : State :=
  (s.setTxQueue r.queue
    { s.txQueue r.queue with entries := (s.txQueue r.queue).entries ++ [r.toEntry s.time.now] }).closeStaging

theorem exec_txSubmit_of_owner (htakes : s.takesCommands) {res : Result}
    (howner : txSubmit s.cmd.operands (s.acceptCommand 0x42) = (x.acceptCommand 0x42, res)) :
    exec .txSubmit s = .next (x.doneWith 0x42 res) :=
  congrArg _ (shortCommand_done htakes howner)

section

variable {r : StagingRecord}

theorem exec_txSubmit_incomplete (htakes : s.takesCommands) (hopen : s.staging.record = some r)
    (hshort : r.payload.length < r.length.toNat) : exec .txSubmit s = .next (s.doneWith 0x42 .incomplete) :=
  exec_txSubmit_of_owner htakes (by simp only [txSubmit, State.acceptCommand_staging, hopen, if_pos hshort])

theorem exec_txSubmit_queueFull (htakes : s.takesCommands) (hopen : s.staging.record = some r)
    (hlong : r.length.toNat ≤ r.payload.length)
    (hfull : (s.txQueue r.queue).config.depth ≤ (s.txQueue r.queue).entries.length) :
    exec .txSubmit s = .next (s.doneWith 0x42 .queueFull) := by
  refine exec_txSubmit_of_owner htakes ?_
  simp only [txSubmit, State.acceptCommand_staging, hopen, if_neg (Nat.not_lt.mpr hlong)]
  exact if_pos hfull

theorem exec_txSubmit_order (htakes : s.takesCommands) (hopen : s.staging.record = some r)
    (hlong : r.length.toNat ≤ r.payload.length)
    (hroom : (s.txQueue r.queue).entries.length < (s.txQueue r.queue).config.depth)
    (hbreaks : (s.txQueue r.queue).breaksOrder r.launch = true) :
    exec .txSubmit s = .next (s.doneWith 0x42 .order) := by
  refine exec_txSubmit_of_owner htakes ?_
  simp only [txSubmit, State.acceptCommand_staging, hopen, if_neg (Nat.not_lt.mpr hlong)]
  exact (if_neg (Nat.not_le.mpr hroom)).trans (if_pos hbreaks)

theorem exec_txSubmit_ok (htakes : s.takesCommands) (hopen : s.staging.record = some r)
    (hlong : r.length.toNat ≤ r.payload.length)
    (hroom : (s.txQueue r.queue).entries.length < (s.txQueue r.queue).config.depth)
    (hkeeps : ¬(s.txQueue r.queue).breaksOrder r.launch = true) :
    exec .txSubmit s = .next ((s.submitted r).select.doneWith 0x42 .ok) := by
  refine exec_txSubmit_of_owner htakes ?_
  simp only [txSubmit, State.acceptCommand_staging, hopen, if_neg (Nat.not_lt.mpr hlong)]
  refine (if_neg (Nat.not_le.mpr hroom)).trans ((if_neg hkeeps).trans (congrArg (·, Result.ok) ?_))
  exact State.afterTransmit_acceptCommand (s := s.submitted r) htakes.2 0x42

end

/-- Settles O41: the checks in their order, and the selection after the join. -/
theorem txSubmitJoinsTheTail : Obligations.TxSubmitJoinsTheTail := by
  intro s htakes
  refine ⟨fun hclosed => exec_txSubmit_of_owner htakes (by simp only [txSubmit, State.acceptCommand_staging, hclosed]),
    fun r hopen => ?_⟩
  intro q early due joined
  have hearly : q.breaksOrder r.launch = true ↔ early := TxQueue.breaksOrder_iff
  have hentry : r.toEntry s.time.now =
      { channel := r.channel, kind := r.kind, marker := r.marker, insertTime := r.insertTime, length := r.length,
        launch := r.launch, tag := r.tag, payload := r.payload, due := due, attempts := 0, sequenceUsed := none,
        startStamp := none } := by
    simp only [due, StagingRecord.toEntry]
    cases r.launch <;> rfl
  have hjoined : s.submitted r = joined := by
    rw [State.submitted, hentry]
    rfl
  refine ⟨exec_txSubmit_incomplete htakes hopen, exec_txSubmit_queueFull htakes hopen,
    fun hlong hroom hbreaks => exec_txSubmit_order htakes hopen hlong hroom (hearly.mpr hbreaks),
    fun hlong hroom hkeeps => ?_⟩
  have hexec := exec_txSubmit_ok htakes hopen hlong hroom (mt hearly.mp hkeeps)
  rw [hjoined] at hexec
  refine ⟨hexec, fun hholds => ?_, fun hidle hon hnothing hempty hpaused hflush hlaunch => ?_⟩
  · rw [hexec, hholds.select_eq_self (x := joined) rfl]
  · rw [hexec]
    have hothers : ∀ u, (s.txQueue u).dueHead = none := by
      obtain h | h | h | h := State.selects_eq_none_iff.mp hnothing
      · exact absurd hidle h
      · rw [hon] at h; cases h
      · rw [htakes.2] at h; cases h
      · exact h
    have hqueue : joined.txQueue r.queue = { q with entries := [r.toEntry s.time.now] } := by
      rw [← hjoined, State.submitted]
      refine (State.txQueue_setTxQueue ..).trans ?_
      rw [if_pos rfl, show (s.txQueue r.queue).entries = [] from hempty]
      rfl
    rw [State.select_of_only_immediate (s := joined) (t := r.queue) (e := r.toEntry s.time.now) (rest := []) hidle hon
      (by rw [show joined.cmd = s.cmd from rfl, htakes.2]; nofun) (by rw [hqueue])
      (by simp only [StagingRecord.toEntry, hlaunch]) hlaunch (by rw [hqueue]; exact hpaused)
      (by rw [hqueue]; exact hflush) fun u hu => ?_]
    refine (congrArg TxQueue.dueHead ?_).trans (hothers u)
    exact (State.txQueue_setTxQueue ..).trans (if_neg hu)

/-! ### TX_PAUSE, TX_START and LINE_TX (R121, R144) -/

theorem exec_txPause (htakes : s.takesCommands) (hqueue : s.cmd.operands.a.toNat = t.val) :
    exec .txPause s = .next ((s.setTxQueue t { s.txQueue t with paused := true }).doneWith 0x45 .ok) := by
  have harg : txQueueArg s.cmd.operands.a = some t := txQueueArg_eq_some.mpr hqueue
  refine congrArg _ (shortCommand_done htakes ?_)
  simp only [txPause, harg]
  rfl

theorem exec_txStart (htakes : s.takesCommands) (hqueue : s.cmd.operands.a.toNat = t.val) :
    exec .txStart s = .next ((s.setTxQueue t { s.txQueue t with paused := false }).select.doneWith 0x46 .ok) := by
  have harg : txQueueArg s.cmd.operands.a = some t := txQueueArg_eq_some.mpr hqueue
  refine congrArg _ (shortCommand_done htakes ?_)
  simp only [txStart, harg]
  exact congrArg (·, Result.ok) (State.afterTransmit_acceptCommand
    (s := s.setTxQueue t { s.txQueue t with paused := false }) htakes.2 0x46)

theorem exec_lineTx_of {on : Bool} (htakes : s.takesCommands) (harg : choiceArg s.cmd.operands.a = some on)
    (hset : (if on then (s.acceptCommand 0x48).lineTxOn else (s.acceptCommand 0x48).lineTxOff) =
      x.acceptCommand 0x48) : exec .lineTx s = .next (x.doneWith 0x48 .ok) := by
  refine congrArg _ (shortCommand_done htakes ?_)
  simp only [lineTxSet, harg]
  exact congrArg (·, Result.ok) hset

theorem exec_lineTx_on (htakes : s.takesCommands) (hon : s.cmd.operands.a = 1) :
    exec .lineTx s = .next
      (({ s with txf := { s.txf with lineTx := true } } : State).select.doneWith 0x48 .ok) :=
  exec_lineTx_of (on := true) htakes (hon ▸ choiceArg_one) (State.afterTransmit_acceptCommand
    (s := { s with txf := { s.txf with lineTx := true } }) htakes.2 0x48)

/-- Settles O43: each command sets its flag, and a selection follows where one can be made. -/
theorem pauseStartAndLineTx : Obligations.PauseStartAndLineTx := by
  intro s htakes
  have hquiet : s.cmd.running ≠ some .softReset := by rw [htakes.2]; nofun
  refine ⟨fun t hqueue => ?_, fun hrange => ?_, fun hoff => ?_, exec_lineTx_on htakes, fun hon hnone => ?_,
    fun t e rest hon hidle hentries hdue hlaunch hpaused hflush hother => ?_⟩
  · intro q started
    refine ⟨exec_txPause htakes hqueue, exec_txStart htakes hqueue, fun hholds => ?_,
      fun e rest hidle hline hentries hdue hlaunch hflush hother => ?_⟩
    · rw [exec_txStart htakes hqueue, hholds.select_eq_self (x := s.setTxQueue t _) rfl]
    · rw [exec_txStart htakes hqueue]
      have hset : started.txQueue t = { q with paused := false } := (State.txQueue_setTxQueue ..).trans (if_pos rfl)
      rw [State.select_of_only_immediate (s := started) (t := t) (rest := rest) hidle hline hquiet
        (by rw [hset]; exact hentries) hdue hlaunch (by rw [hset]) (by rw [hset]; exact hflush) fun u hu => ?_]
      exact (congrArg TxQueue.dueHead ((State.txQueue_setTxQueue ..).trans (if_neg hu))).trans (hother u hu)
  · have harg : choiceArg s.cmd.operands.a = none := choiceArg_eq_none.mpr hrange
    exact congrArg _ (shortCommand_done htakes (by simp only [lineTxSet, harg]))
  · refine exec_lineTx_of (on := false) htakes (hoff ▸ choiceArg_zero) ?_
    simp only [Bool.false_eq_true, if_false, State.lineTxOff, State.acceptCommand_txf]
    cases s.txf.state <;> rfl
  · rw [exec_lineTx_on htakes hon, State.select_of_none]
    exact State.selects_eq_none_iff.mpr (hnone.imp_right fun h => .inr (.inr h))
  · rw [exec_lineTx_on htakes hon, State.select_of_only_immediate (t := t)
      (s := { s with txf := { s.txf with lineTx := true } }) hidle rfl hquiet hentries hdue hlaunch hpaused hflush hother]
    rfl

/-! ### TX_CONFIG and TX_CANCEL (R120, R122) -/

theorem txConfigArgs_eq_some {o : Operands} {g : TxConfig} (hqueue : o.a.toNat = t.val) (hdepth : o.b.toNat = g.depth)
    (htolerance : o.c = g.tolerance) (hlate : choiceArg o.d = some (decide (g.late = .dropLate)))
    (hretry : o.e.toNat = g.retryLimit) (hlow : 1 ≤ g.depth) (hhigh : g.depth ≤ 64) (hlimit : g.retryLimit ≤ 7) :
    txConfigArgs o = some (t, g) := by
  have hlateOf : (if decide (g.late = .dropLate) then LatePolicy.dropLate else .sendLate) = g.late := by
    cases g.late <;> rfl
  have hqueueArg : txQueueArg o.a = some t := txQueueArg_eq_some.mpr hqueue
  have hdepthArg : numberArg 1 64 o.b = some g.depth := numberArg_eq_some.mpr ⟨hdepth, hlow, hhigh⟩
  have hretryArg : numberArg 0 7 o.e = some g.retryLimit := numberArg_eq_some.mpr ⟨hretry, Nat.zero_le _, hlimit⟩
  simp only [txConfigArgs, hqueueArg, hdepthArg, hlate, hretryArg, Option.bind_eq_bind, Option.bind_some, hlateOf,
    htolerance]
  rfl

theorem txConfigArgs_eq_none {o : Operands}
    (hrange : o.b = 0 ∨ 64 < o.b.toNat ∨ 1 < o.d.toNat ∨ 7 < o.e.toNat) : txConfigArgs o = none := by
  have hdepth : o.b = 0 → o.b.toNat < 1 := fun h => by rw [h]; decide
  cases hargs : txConfigArgs o with
  | none => rfl
  | some pair =>
    simp only [txConfigArgs, Option.bind_eq_bind, Option.bind_eq_some_iff] at hargs
    obtain ⟨_, -, _, hb, _, hd, _, he, -⟩ := hargs
    obtain ⟨rfl, hlow, hhigh⟩ := numberArg_eq_some.mp hb
    obtain ⟨rfl, -, hlimit⟩ := numberArg_eq_some.mp he
    have hchoice : ¬1 < o.d.toNat := fun h => by rw [choiceArg_eq_none.mpr h] at hd; cases hd
    obtain h | h | h | h := hrange
    · have := hdepth h; omega
    · omega
    · exact absurd h hchoice
    · omega

theorem exec_txConfig_of_args (htakes : s.takesCommands) {g : TxConfig}
    (hargs : txConfigArgs s.cmd.operands = some (t, g)) :
    ((s.txQueue t).entries = [] →
      exec .txConfig s = .next ((s.setTxQueue t { s.txQueue t with config := g }).doneWith 0x40 .ok)) ∧
    ((s.txQueue t).entries ≠ [] → exec .txConfig s = .next (s.doneWith 0x40 .wrongState)) := by
  refine ⟨fun hempty => congrArg _ (shortCommand_done htakes ?_), fun hfull => congrArg _ (shortCommand_done htakes ?_)⟩
  · simp only [txConfigure, hargs]
    exact if_pos (List.isEmpty_iff.mpr hempty)
  · simp only [txConfigure, hargs]
    exact if_neg (mt List.isEmpty_iff.mp hfull)

theorem exec_txCancel_of_owner (htakes : s.takesCommands) {res : Result}
    (howner : txCancel s.cmd.operands (s.acceptCommand 0x44) = (x.acceptCommand 0x44, res)) :
    exec .txCancel s = .next (x.doneWith 0x44 res) :=
  congrArg _ (shortCommand_done htakes howner)

/-- The oldest entry with a tag stands behind entries without it. -/
theorem TxQueue.placeOfTag_of_split {q : TxQueue} {before after : List TxEntry} {tag : Word}
    (hentries : q.entries = before ++ e :: after) (hbefore : ∀ e' ∈ before, e'.tag ≠ tag) (htag : e.tag = tag) :
    q.placeOfTag tag = some before.length := by
  have hnone : before.findIdx? (fun e => e.tag == tag) = none := by
    simpa [List.findIdx?_eq_none_iff] using hbefore
  simp [TxQueue.placeOfTag, hentries, List.findIdx?_append, hnone, List.findIdx?_cons, htag]

/-- The state after an entry of queue `t`, with `before` and `after` around it, has left with a report (R27, R149). -/
def State.reported (s : State) (t : TxQueueId) (before : List TxEntry) (e : TxEntry) (after : List TxEntry)
    (r : ReportResult) : State :=
  ((s.appendReport (reportOf t e r)).setTxQueue t
    { s.txQueue t with entries := before ++ after }).returnHolder e.cells

section

variable {before after : List TxEntry}

theorem State.reported_txf (r : ReportResult) : (s.reported t before e after r).txf = s.txf := by
  simp [State.reported]

theorem State.reported_cmd (r : ReportResult) : (s.reported t before e after r).cmd = s.cmd := by
  simp [State.reported]

theorem State.reported_txQueue (r : ReportResult) (u : TxQueueId) :
    (s.reported t before e after r).txQueue u =
      if u = t then { s.txQueue t with entries := before ++ after } else s.txQueue u := by
  refine (State.txQueue_setTxQueue ..).trans ?_
  rw [State.appendReport_txQueue]

theorem State.leaveWithReport_of_split (hentries : (s.txQueue t).entries = before ++ e :: after) (r : ReportResult) :
    s.leaveWithReport t before.length r = s.reported t before e after r := by
  have herase : (s.txQueue t).entries.eraseIdx before.length = before ++ after := by
    rw [hentries, List.eraseIdx_append_of_length_le (Nat.le_refl _), Nat.sub_self, List.eraseIdx_cons_zero]
  rw [State.leaveWithReport_of_some (e := e) (by simp [hentries]), herase]
  rfl

/-- An entry that is not in flight leaves with its report alone. -/
theorem State.withdrawEntry_of_split (hentries : (s.txQueue t).entries = before ++ e :: after) (r : ReportResult)
    (hwaits : (s.headWaiting t && before.length == 0) = false) :
    s.withdrawEntry t before.length r = s.reported t before e after r := by
  rw [State.withdrawEntry, State.leaveWithReport_of_split hentries, hwaits]
  rfl

/-- The head in WAITING_LINE leaves with the framer IDLE. -/
theorem State.withdrawEntry_of_waiting (hentries : (s.txQueue t).entries = e :: after) (r : ReportResult)
    (hwaits : s.headWaiting t = true) :
    s.withdrawEntry t 0 r = (s.reported t [] e after r).setTxFramer .idle := by
  rw [State.withdrawEntry, ← List.length_nil (α := TxEntry), State.leaveWithReport_of_split (before := []) hentries,
    hwaits]
  rfl

theorem State.headWaiting_iff : s.headWaiting t = true ↔ ∃ armed setBack, s.txf.state = .waitingLine t armed setBack := by
  unfold State.headWaiting
  split
  next u armed setBack hstate =>
    rw [hstate, beq_iff_eq]
    exact ⟨fun h => ⟨armed, setBack, by rw [h]⟩, fun ⟨_, _, h⟩ => (TxFramerState.waitingLine.inj h).1⟩
  next hnot => exact ⟨nofun, fun ⟨_, _, h⟩ => absurd h (hnot _ _ _)⟩

theorem State.headSending_iff : s.headSending t = true ↔ ∃ a, s.txf.state = .sending a ∧ a.queue = t := by
  unfold State.headSending
  split
  next a hstate =>
    rw [hstate, beq_iff_eq]
    exact ⟨fun h => ⟨a, rfl, h⟩, fun ⟨_, heq, h⟩ => (TxFramerState.sending.inj heq) ▸ h⟩
  next hnot => exact ⟨nofun, fun ⟨_, h, _⟩ => absurd h (hnot _)⟩

/-- The head of a queue is in flight when it is waiting or sending. -/
theorem State.inFlightQueue_eq_iff :
    s.txf.state.inFlightQueue = some t ↔ s.headWaiting t = true ∨ s.headSending t = true := by
  unfold State.headWaiting State.headSending TxFramerState.inFlightQueue
  cases s.txf.state <;> simp

theorem exec_txCancel_of_withdrawn (htakes : s.takesCommands) (hqueue : s.cmd.operands.a.toNat = t.val)
    (hplace : (s.txQueue t).placeOfTag s.cmd.operands.b = some before.length)
    (hstays : (s.headSending t && before.length == 0) = false)
    (hleft : (s.acceptCommand 0x44).withdrawEntry t before.length .cancelled = x.acceptCommand 0x44)
    (hidle : x.cmd.running = none) : exec .txCancel s = .next (x.select.doneWith 0x44 .ok) := by
  have harg : txQueueArg s.cmd.operands.a = some t := txQueueArg_eq_some.mpr hqueue
  refine exec_txCancel_of_owner htakes ?_
  have hplace' : ((s.acceptCommand 0x44).txQueue t).placeOfTag s.cmd.operands.b = some before.length := hplace
  simp only [txCancel, harg, hplace', hleft]
  refine (if_neg (Bool.eq_false_iff.mp hstays)).trans (congrArg (·, Result.ok) ?_)
  exact State.afterTransmit_acceptCommand hidle 0x44

theorem State.reported_acceptCommand (r : ReportResult) (code : Word) :
    (s.acceptCommand code).reported t before e after r = (s.reported t before e after r).acceptCommand code := by
  rw [State.reported, State.appendReport_acceptCommand]
  rfl

end

/-- Settles O44: TX_CONFIG by its operands, and TX_CANCEL by the place of the oldest entry with the tag. -/
theorem txConfigAndTxCancel : Obligations.TxConfigAndTxCancel := by
  intro s t htakes hqueue q o
  have harg : txQueueArg s.cmd.operands.a = some t := txQueueArg_eq_some.mpr hqueue
  refine ⟨fun g hdepth htolerance hlate hretry hlow hhigh hlimit => exec_txConfig_of_args htakes
    (txConfigArgs_eq_some hqueue hdepth htolerance ?_ hretry hlow hhigh hlimit), fun hrange => ?_, fun hnot => ?_,
    fun before e after hentries hbefore htag => ?_⟩
  · show choiceArg o.d = _
    rw [hlate]
    cases g.late <;> rfl
  · have hargs : txConfigArgs s.cmd.operands = none := txConfigArgs_eq_none hrange
    exact congrArg _ (shortCommand_done htakes (by simp only [txConfigure, hargs]))
  · have hplace : ((s.acceptCommand 0x44).txQueue t).placeOfTag s.cmd.operands.b = none := by
      refine List.findIdx?_eq_none_iff.mpr fun e he => ?_
      exact beq_eq_false_iff_ne.mpr (hnot e he)
    exact exec_txCancel_of_owner htakes (by simp only [txCancel, harg, hplace])
  · intro left
    have hplace : (s.txQueue t).placeOfTag s.cmd.operands.b = some before.length :=
      TxQueue.placeOfTag_of_split hentries hbefore htag
    have hleft : left.cmd = s.cmd :=
      State.reported_cmd (s := s) (t := t) (before := before) (e := e) (after := after) .cancelled
    have hidle : left.cmd.running = none := (congrArg (·.running) hleft).trans htakes.2
    refine ⟨fun hnil hsending => ?_, fun hother => ?_, fun hnil hwaiting => ?_⟩
    · have hplace' : ((s.acceptCommand 0x44).txQueue t).placeOfTag s.cmd.operands.b = some 0 := by
        subst hnil; exact hplace
      refine exec_txCancel_of_owner htakes ?_
      simp only [txCancel, harg, hplace']
      exact if_pos (by rw [Bool.and_eq_true]; exact ⟨State.headSending_iff.mpr hsending, rfl⟩)
    · have hnot : (before ≠ [] ∨ ¬(s.headWaiting t = true ∨ s.headSending t = true)) :=
        hother.imp_right (mt State.inFlightQueue_eq_iff.mpr)
      have hcalm (b : Bool) (hb : b = true → s.headWaiting t = true ∨ s.headSending t = true) :
          (b && before.length == 0) = false := by
        rw [Bool.and_eq_false_iff, beq_eq_false_iff_ne, Bool.eq_false_iff]
        exact (hnot.imp (mt List.length_eq_zero_iff.mp) (mt hb)).symm
      have hexec := exec_txCancel_of_withdrawn (x := left) htakes hqueue hplace (hcalm _ .inr)
        ((State.withdrawEntry_of_split (s := s.acceptCommand 0x44) hentries .cancelled (hcalm _ .inl)).trans
          (State.reported_acceptCommand ..)) hidle
      exact ⟨hexec, fun hholds => by rw [hexec, hholds.select_eq_self (x := left) (State.reported_txf ..)]⟩
    · subst hnil
      have hsending : s.headSending t = false := Bool.eq_false_iff.mpr fun h => by
        obtain ⟨_, _, hw⟩ := hwaiting
        obtain ⟨_, hs, _⟩ := State.headSending_iff.mp h
        rw [hw] at hs; cases hs
      have hexec := exec_txCancel_of_withdrawn (before := []) (x := left.setTxFramer .idle) htakes hqueue hplace
        (by rw [hsending]; rfl)
        ((State.withdrawEntry_of_waiting (s := s.acceptCommand 0x44) hentries .cancelled
          (State.headWaiting_iff.mpr hwaiting)).trans
          (congrArg (State.setTxFramer · .idle) (State.reported_acceptCommand ..))) hidle
      refine ⟨hexec, fun hnothing => ?_⟩
      have hqueues := State.reported_txQueue (s := s) (t := t) (before := []) (e := e) (after := after) .cancelled
      rw [hexec, hnothing.select_eq_self (x := left.setTxFramer .idle)
        (congrArg (·.lineTx) (State.reported_txf (s := s) (before := []) .cancelled))
        ((hqueues t).trans (if_pos rfl)) fun u hu => (hqueues u).trans (if_neg hu)]

end Sys2Proof.Machine
end


section
/-! Proofs about TX_FLUSH: its acceptance, its removals, and its completion in whichever change leaves nothing to remove
(R124, R125; log 14). -/

namespace Sys2Proof.Machine

variable {s x : State} {t : TxQueueId} {e : TxEntry} {rest before after : List TxEntry}

/-! ### The completion of TX_FLUSH (R125) -/

theorem State.flushDone_iff :
    s.flushDone t = true ↔ (s.txQueue t).entries = [] ∨
      ((s.txQueue t).entries.length = 1 ∧ ∃ a, s.txf.state = .sending a ∧ a.queue = t) := by
  unfold State.flushDone
  split
  next hempty => simp [hempty]
  next hone =>
    split
    next a hsending => simp [hone, hsending]
    next hnot =>
      refine ⟨nofun, ?_⟩
      rintro (hempty | ⟨-, a, ha, -⟩)
      · rw [hone] at hempty; cases hempty
      · exact absurd ha (hnot a)
  next hnil hone =>
    refine ⟨nofun, ?_⟩
    rintro (h | ⟨h, -⟩)
    · exact absurd h hnil
    · obtain ⟨e, he⟩ := List.length_eq_one_iff.mp h
      exact absurd he (hone e)

theorem State.completeTxFlush_of_done (hrunning : s.cmd.running = some (.txFlush t)) (hdone : s.flushDone t = true) :
    s.completeTxFlush = (s.setTxQueue t { s.txQueue t with flush := false }).completeLong := by
  simp only [State.completeTxFlush, hrunning, hdone, if_true]

theorem State.completeTxFlush_of_work (hrunning : s.cmd.running = some (.txFlush t)) (hwork : ¬s.flushDone t = true) :
    s.completeTxFlush = s := by
  simp only [State.completeTxFlush, hrunning, if_neg hwork]

theorem State.setTxQueue_setTxQueue (t : TxQueueId) (q r : TxQueue) :
    (s.setTxQueue t q).setTxQueue t r = s.setTxQueue t r := by
  simp [State.setTxQueue]

theorem State.setTxQueue_self : s.setTxQueue t (s.txQueue t) = s := by
  simp [State.setTxQueue, State.txQueue]

theorem State.txQueue_setTxQueue_self (q : TxQueue) : (s.setTxQueue t q).txQueue t = q :=
  (State.txQueue_setTxQueue s t t q).trans (if_pos rfl)

/-- TX_FLUSH at its acceptance, before what completes it at once. -/
def State.flushStarted (s : State) (t : TxQueueId) : State :=
  ((s.acceptCommand 0x47).setTxQueue t { s.txQueue t with flush := true }).startLong (.txFlush t)

theorem State.flushStarted_txQueue : (s.flushStarted t).txQueue t = { s.txQueue t with flush := true } :=
  (State.txQueue_setTxQueue (s.acceptCommand 0x47) t t _).trans (if_pos rfl)

theorem State.flushStarted_done : (s.flushStarted t).flushDone t = true ↔ (s.txQueue t).entries = [] ∨
    ((s.txQueue t).entries.length = 1 ∧ ∃ a, s.txf.state = .sending a ∧ a.queue = t) := by
  rw [State.flushDone_iff, State.flushStarted_txQueue]
  rfl

/-- The transmit flush of a queue with work left goes on (R124). -/
theorem exec_txFlush_of_work (htakes : s.takesCommands) (hqueue : s.cmd.operands.a.toNat = t.val)
    (hwork : ¬(s.flushStarted t).flushDone t = true) : exec .txFlush s = .next (s.flushStarted t) := by
  rw [exec_txFlush_of_queue htakes hqueue]
  exact congrArg _ (State.completeTxFlush_of_work rfl hwork)

theorem exec_txFlush_of_done (htakes : s.takesCommands) (hqueue : s.cmd.operands.a.toNat = t.val)
    (hdone : (s.flushStarted t).flushDone t = true) :
    exec .txFlush s = .next ((s.setTxQueue t { s.txQueue t with flush := false }).doneWith 0x47 .ok) := by
  have hcompleted : (s.flushStarted t).completeTxFlush =
      (s.setTxQueue t { s.txQueue t with flush := false }).doneWith 0x47 .ok := by
    rw [State.completeTxFlush_of_done rfl hdone, State.flushStarted_txQueue]
    have hset : (s.flushStarted t).setTxQueue t { s.txQueue t with flush := false } =
        ((s.setTxQueue t { s.txQueue t with flush := false }).acceptCommand 0x47).startLong (.txFlush t) :=
      congrArg (fun y : State => (y.acceptCommand 0x47).startLong (.txFlush t))
        (State.setTxQueue_setTxQueue (s := s) t { s.txQueue t with flush := true } _)
    refine (congrArg State.completeLong hset).trans ?_
    exact State.completeLong_startLong (s := (s.setTxQueue t _).acceptCommand 0x47) htakes.2 _
  rw [exec_txFlush_of_queue htakes hqueue]
  exact congrArg _ hcompleted

/-! ### The removals of a flush -/

/-- The oldest entry of a queue that is not SENDING stands at the head, or behind a SENDING head. -/
def State.OldestRemovable (s : State) (t : TxQueueId) (before : List TxEntry) : Prop :=
  (before = [] ∧ ∀ a, s.txf.state = .sending a → a.queue ≠ t) ∨
    (before.length = 1 ∧ ∃ a, s.txf.state = .sending a ∧ a.queue = t)

theorem State.OldestRemovable.place (h : s.OldestRemovable t before) : s.oldestNotSending t = before.length := by
  obtain ⟨rfl, hnot⟩ | ⟨hone, hsending⟩ := h
  · exact if_neg fun hsending => by
      obtain ⟨a, ha, hqueue⟩ := State.headSending_iff.mp hsending
      exact hnot a ha hqueue
  · exact (if_pos (State.headSending_iff.mpr hsending)).trans hone.symm

/-- The framer after the oldest removable entry has left: IDLE if that entry was waiting for the line. -/
def State.framerWithout (s : State) (t : TxQueueId) : TxFramerState := if s.headWaiting t then .idle else s.txf.state

theorem State.setTxFramer_self : s.setTxFramer s.txf.state = s := rfl

theorem State.OldestRemovable.withdrawEntry (h : s.OldestRemovable t before)
    (hentries : (s.txQueue t).entries = before ++ e :: after) (r : ReportResult) :
    s.withdrawEntry t before.length r = (s.reported t before e after r).setTxFramer (s.framerWithout t) := by
  unfold State.framerWithout
  cases hwaiting : s.headWaiting t with
  | false =>
    rw [State.withdrawEntry_of_split hentries r (by rw [hwaiting]; rfl), if_neg nofun,
      ← State.reported_txf (s := s) (t := t) (before := before) (e := e) (after := after) r, State.setTxFramer_self]
  | true =>
    obtain ⟨rfl, -⟩ | ⟨-, a, hsending, -⟩ := h
    · rw [if_pos rfl]
      exact State.withdrawEntry_of_waiting hentries r hwaiting
    · obtain ⟨armed, setBack, hstate⟩ := State.headWaiting_iff.mp hwaiting
      rw [hsending] at hstate; cases hstate

theorem State.sending_of_framerWithout {a : Attempt} (hframer : s.framerWithout t = .sending a) : s.txf.state = .sending a := by
  unfold State.framerWithout at hframer
  split at hframer
  · cases hframer
  · exact hframer

theorem exec_txFlushRemoval_of_split (hreset : s.inReset = false) (hflush : (s.txQueue t).flush = true)
    (hentries : (s.txQueue t).entries = before ++ e :: after) (hplace : s.OldestRemovable t before) :
    exec (.txFlushRemoval t) s =
      .next ((s.reported t before e after .flushed).setTxFramer (s.framerWithout t)).afterTransmit := by
  change execTxFlushRemoval t s = _
  rw [execTxFlushRemoval, State.unlessReset_of_released _ hreset, hflush, hplace.place,
    hplace.withdrawEntry hentries]
  rfl

/-- Nothing is selected after a removal: the queue under flush has no candidate, and the others have none, or the
transmitter cannot select. -/
theorem State.select_eq_self_of_flushed (hholds : x.TransmitterHolds ∨ ∀ u, u ≠ t → (x.txQueue u).dueHead = none)
    (hqueue : (x.txQueue t).entries = [] ∨ (x.txQueue t).flush = true ∨ x.TransmitterHolds) : x.select = x := by
  obtain hholds | hothers := hholds
  · exact hholds.select_eq_self rfl
  have hnone (h : (x.txQueue t).dueHead = none) : x.select = x :=
    x.select_of_none (State.selects_eq_none_iff.mpr (.inr (.inr (.inr fun u => by
      by_cases hu : u = t
      · rw [hu, h]
      · exact hothers u hu))))
  obtain hempty | hflush | hholds := hqueue
  · exact hnone (TxQueue.dueHead_eq_none (.inl hempty))
  · exact hnone (TxQueue.dueHead_eq_none (.inr (.inr hflush)))
  · exact hholds.select_eq_self rfl

/-- Settles O45: the acceptance by whether work is left, and each removal with the completion of the last. -/
theorem txFlushRemovesWhatIsNotSending : Obligations.TxFlushRemovesWhatIsNotSending := by
  refine ⟨fun s t htakes hqueue => ?_, fun s t before e after hreset hflush hentries hplace => ?_,
    fun s => ⟨fun hwork => ?_, fun t hrunning hdone => ?_⟩⟩
  · intro q sending
    refine ⟨fun hentries hnot => ?_, fun hdone => exec_txFlush_of_done htakes hqueue (State.flushStarted_done.mpr hdone)⟩
    refine exec_txFlush_of_work htakes hqueue fun hdone => ?_
    exact (State.flushStarted_done.mp hdone).elim hentries hnot
  · intro q reported framer left
    have hplace : s.OldestRemovable t before := hplace
    have hexec : exec (.txFlushRemoval t) s = .next left.afterTransmit :=
      exec_txFlushRemoval_of_split hreset hflush hentries hplace
    refine ⟨hexec, fun hrunning hquiet => ?_⟩
    have hqueues : ∀ u, left.txQueue u = if u = t then { s.txQueue t with entries := before ++ after } else s.txQueue u :=
      State.reported_txQueue (e := e) .flushed
    have hleft : left.txQueue t = { s.txQueue t with entries := before ++ after } := (hqueues t).trans (if_pos rfl)
    have hcmd : left.cmd = s.cmd := State.reported_cmd (s := s) (t := t) (before := before) (e := e) (after := after) _
    have hline : left.txf = { s.txf with state := framer } :=
      congrArg (fun f : TxFramer => { f with state := framer })
        (State.reported_txf (s := s) (t := t) (before := before) (e := e) (after := after) .flushed)
    have hholds : (left.TransmitterHolds ∨ ∀ u, u ≠ t → (left.txQueue u).dueHead = none) := by
      unfold State.TransmitterHolds
      rw [hline]
      obtain ⟨hbusy | hoff, hnot⟩ | hoff | hothers := hquiet
      · exact .inl (.inl (by simpa [framer, hnot] using hbusy))
      · exact .inl (.inr hoff)
      · exact .inl (.inr hoff)
      · exact .inr fun u hu => by rw [hqueues u, if_neg hu]; exact hothers u hu
    refine ⟨fun hmore => ?_, fun hlast hend => ?_⟩
    · have hwork : ¬left.flushDone t = true := by
        rw [State.flushDone_iff, hleft, hline]
        rintro (hempty | ⟨hone, a, hsending, ha⟩)
        · exact hmore (List.append_eq_nil_iff.mp hempty).2
        · have hsent := State.sending_of_framerWithout (s := s) (t := t) hsending
          have hafter := List.length_pos_of_ne_nil hmore
          simp only [List.length_append] at hone
          obtain ⟨rfl, hnot⟩ | ⟨hb, -⟩ := hplace
          · exact hnot a hsent ha
          · omega
      rw [hexec, State.afterTransmit, State.completeTxFlush_of_work (hcmd ▸ hrunning) hwork,
        State.select_eq_self_of_flushed (t := t) hholds (.inr (.inl (by rw [hleft]; exact hflush)))]
    · subst hlast
      have hdone : left.flushDone t = true := by
        rw [State.flushDone_iff, hleft, hline]
        obtain ⟨rfl, -⟩ | ⟨hone, a, hsending, ha⟩ := hplace
        · exact .inl rfl
        · refine .inr ⟨by simpa using hone, a, ?_, ha⟩
          have hnot : s.headWaiting t = false := by simp [State.headWaiting, hsending]
          simpa [framer, hnot] using hsending
      have hset : left.setTxQueue t { left.txQueue t with flush := false } =
          ((reported.setTxQueue t { q with entries := before, flush := false }).returnHolder e.cells).setTxFramer
            framer := by
        rw [hleft, List.append_nil]
        exact congrArg (fun y : State => (y.returnHolder e.cells).setTxFramer framer)
          (State.setTxQueue_setTxQueue (s := reported) t { q with entries := before ++ [] } _)
      have hreported : reported.cmd = s.cmd := hcmd
      rw [hexec, State.afterTransmit, State.completeTxFlush_of_done (hcmd ▸ hrunning) hdone, hset,
        State.select_eq_self_of_flushed (t := t), ← hreported]
      · rfl
      · exact hholds.imp_right fun hothers u hu =>
          (congrArg TxQueue.dueHead ((State.txQueue_setTxQueue reported t u _).trans
            ((if_neg hu).trans ((State.appendReport_txQueue _ u).trans ((hqueues u).trans (if_neg hu)).symm)))).trans
              (hothers u hu)
      · refine hend.imp (fun hempty => ?_) fun hbusy => .inr (.inl hbusy)
        exact (congrArg TxQueue.entries (State.txQueue_setTxQueue_self (s := reported) _)).trans hempty
  · rw [State.afterTransmit, hwork.completeTxFlush]
  · rw [State.afterTransmit, State.completeTxFlush_of_done hrunning (State.flushDone_iff.mpr hdone)]
    rfl

end Sys2Proof.Machine
end


section
/-! Proofs about the watchers of the transmit side, and the handing over of a report (R131, R135, R137, R150, R151;
log 5, log 8, log 9). -/

namespace Sys2Proof.Machine

variable {s x : State} {t : TxQueueId} {e : TxEntry} {rest : List TxEntry} {T : LinkTime} {old new : LinkTime}

/-! ### The rows of the watchers (log 5) -/

theorem exec_launchTimeReached (hreset : s.inReset = false) {place : Fin 64}
    (hentry : (s.txQueue t).entries[place.val]? = some e) (hlaunch : e.launch = some T) (hdue : e.due = false)
    (hreached : s.time.now.before T = false) : exec (.launchTimeReached t place) s = .next (s.setTxQueue t
      { s.txQueue t with entries := (s.txQueue t).entries.set place.val { e with due := true } }).afterTransmit := by
  have hat : T.reachedAt s.time.now = true := by rw [LinkTime.reachedAt, hreached]; rfl
  change execLaunchTimeReached t place s = _
  simp only [execLaunchTimeReached, State.unlessReset_of_released _ hreset, hentry, hlaunch, hdue, hat, and_self,
    if_true]

theorem TxEntry.deadline_of_timed (hlaunch : e.launch = some T) (g : TxConfig) :
    e.deadline g = some (T.addTicks g.tolerance) := by
  rw [TxEntry.deadline, hlaunch]
  rfl

theorem TxEntry.releasedAt_of_timed (hlaunch : e.launch = some T) (g : TxConfig) (now : LinkTime) (setBack : Bool) :
    e.releasedAt g now setBack = (T.addTicks g.tolerance).releasedAt now setBack := by
  simp only [TxEntry.releasedAt, TxEntry.deadline_of_timed hlaunch]

/-- The deadline row: the drop of a late entry, else the release of a watcher, else nothing. -/
theorem exec_deadlineExpiry_of_armed (hreset : s.inReset = false) {setBack : Bool}
    (hwaiting : s.txf.state = .waitingLine t true setBack) (hentries : (s.txQueue t).entries = e :: rest) :
    exec .deadlineExpiry s = .next
      (if e.lateAt (s.txQueue t).config s.time.now then (s.finishEntry t .lateDropped).afterTransmit
       else if e.releasedAt (s.txQueue t).config s.time.now setBack then s.setTxFramer (.waitingLine t false false)
       else s) := by
  change execDeadlineExpiry s = _
  simp only [execDeadlineExpiry, State.unlessReset_of_released _ hreset, hwaiting, hentries, List.head?_cons,
    State.releaseDeadline_eq]

/-- The finish of the head leaves the rest of its queue, and the other queues. -/
theorem State.finishEntry_select_eq_self (hentries : (s.txQueue t).entries = e :: rest) (hnothing : s.NothingFollows t rest)
    (r : ReportResult) : (s.finishEntry t r).select = s.finishEntry t r := by
  refine hnothing.select_eq_self (by simp) ?_ fun u hu => ?_
  · rw [State.finishEntry_txQueue, if_pos rfl, hentries]
    rfl
  · rw [State.finishEntry_txQueue, if_neg hu]

theorem State.NoTxFlush.finishEntry (h : s.NoTxFlush) (r : ReportResult) : (s.finishEntry t r).NoTxFlush := fun u => by
  rw [(s.finishEntry_frame t r).2.2.2.2.2.2.2.2.2.1]
  exact h u

/-- With no flush to complete and nothing to select, the finish of the head is all that happens. -/
theorem State.finishEntry_afterTransmit_eq_self (hentries : (s.txQueue t).entries = e :: rest) (hquiet : s.NoTxFlush)
    (hnothing : s.NothingFollows t rest) (r : ReportResult) :
    (s.finishEntry t r).afterTransmit = s.finishEntry t r := by
  rw [State.afterTransmit_of_noTxFlush (hquiet.finishEntry r), State.finishEntry_select_eq_self hentries hnothing]

/-! ### The watchers in a change of link time (R131, R137; log 8) -/

/-- A timed entry becomes due when the change reaches its launch time, and an immediate one is left (R131). -/
theorem TxEntry.timeChange_of_immediate (hlaunch : e.launch = none) : e.timeChange old new = e := by
  simp only [TxEntry.timeChange, hlaunch]

theorem TxEntry.timeChange_of_timed (hlaunch : e.launch = some T) :
    e.timeChange old new = { e with due := e.due || (old.before T && !new.before T) } := by
  simp only [TxEntry.timeChange, hlaunch]
  rw [← hlaunch]
  rfl

theorem State.deadline_of_head (hentries : (s.txQueue t).entries = e :: rest) (hlaunch : e.launch = some T) :
    (s.txQueue t).entries.head?.bind (·.deadline (s.txQueue t).config) =
      some (T.addTicks (s.txQueue t).config.tolerance) := by
  rw [hentries, List.head?_cons, Option.bind_some, TxEntry.deadline_of_timed hlaunch]

section

variable {setBack : Bool} (hwaiting : s.txf.state = .waitingLine t true setBack)
  (hentries : (s.txQueue t).entries = e :: rest) (hlaunch : e.launch = some T)
include hwaiting hentries hlaunch

theorem State.deadlineChange_of_passes
    (hpasses : (T.addTicks (s.txQueue t).config.tolerance).passedBy old new = true) :
    s.deadlineChange old new = s.finishEntry t .lateDropped :=
  State.deadlineChange_of_passed hwaiting (State.deadline_of_head hentries hlaunch) hpasses

theorem State.deadlineChange_of_releases
    (hnot : (T.addTicks (s.txQueue t).config.tolerance).passedBy old new = false)
    (hreleases : (T.addTicks (s.txQueue t).config.tolerance).releasedBy old new setBack = true) :
    s.deadlineChange old new = s.setTxFramer (.waitingLine t false false) :=
  State.deadlineChange_of_released hwaiting (State.deadline_of_head hentries hlaunch) hnot hreleases

end

theorem LinkTime.passedBy_eq_true : T.passedBy old new = true ↔ T.before old = false ∧ T.before new = true := by
  rw [LinkTime.passedBy_iff, LinkTime.before_eq_false_iff, LinkTime.before_iff]

/-- A release that is no passing: the saturated value after a backward set (R12; log 9). -/
theorem LinkTime.releasedBy_eq_true {setBack : Bool} : T.releasedBy old new setBack = true ↔
    T.passedBy old new = true ∨ (setBack = true ∧ T = .last ∧ old.before .last = true ∧ new.before .last = false) := by
  rw [LinkTime.releasedBy_iff]
  refine or_congr_right (and_congr_right fun _ => and_congr_right fun hlast => ?_)
  rw [hlast, LinkTime.before_iff, LinkTime.before_eq_false_iff]

theorem LinkTime.last_not_passed : LinkTime.last.passedBy old new = false := by
  rw [← Bool.not_eq_true, LinkTime.passedBy_iff]
  have := LinkTime.val_le_last new
  omega

/-- The report list takes a report or loses it (R150, R151). -/
theorem State.appendReport_of_room (r : Report) (hroom : s.reports.list.length < 32) : s.appendReport r =
    { s with reports := { s.reports with list := s.reports.list ++ [r] }
             irq := { s.irq with status := if s.reports.list = [] then s.irq.status ||| 0x200 else s.irq.status } } := by
  rw [State.appendReport, State.raiseIf_eq]
  refine (if_pos hroom).trans ?_
  cases s.reports.list <;> rfl

theorem State.appendReport_of_full (r : Report) (hfull : 32 ≤ s.reports.list.length) : s.appendReport r =
    { s with reports := { s.reports with lost := s.reports.lost + 1 }
             irq := { s.irq with status := s.irq.status ||| 0x400 } } :=
  if_neg (Nat.not_lt.mpr hfull)

/-- Settles O47: each row of a watcher, the same two watchers in a change of link time, and the report list. -/
theorem launchAndDeadlineWatchers : Obligations.LaunchAndDeadlineWatchers := by
  unfold Obligations.LaunchAndDeadlineWatchers
  intro dropped
  have hdropped (s : State) (t e rest) (hentries : (s.txQueue t).entries = e :: rest) :
      s.finishEntry t .lateDropped = dropped s t e rest := State.finishEntry_of_cons hentries _
  refine ⟨fun s t place e T hreset hentry hlaunch hdue hreached => ?_,
    fun s t setBack e rest T D hreset hwaiting hentries hlaunch hD => ?_, fun s old new => ?_,
    fun s r => ⟨State.appendReport_of_room r, State.appendReport_of_full r⟩⟩
  · intro made
    have hexec := exec_launchTimeReached hreset hentry hlaunch hdue hreached
    refine ⟨hexec, fun hholds hquiet => ?_⟩
    rw [hexec, State.afterTransmit_of_noTxFlush (s := made) hquiet, hholds.select_eq_self (x := made) rfl]
  · have hexec := exec_deadlineExpiry_of_armed hreset hwaiting hentries
    rw [TxEntry.lateAt_of_timed hlaunch, TxEntry.releasedAt_of_timed hlaunch, ← hD, hdropped s t e rest hentries] at hexec
    refine ⟨fun hpassed => ?_, fun hlast hback hreached => ?_, fun hahead hkept => ?_⟩
    · rw [if_pos hpassed] at hexec
      refine ⟨hexec, fun hquiet hnothing => ?_⟩
      rw [hexec, ← hdropped s t e rest hentries, State.finishEntry_afterTransmit_eq_self hentries hquiet hnothing]
    · have hnot : ¬D.before s.time.now = true := by
        rw [LinkTime.before_iff, hlast]
        exact Nat.not_lt.mpr (LinkTime.val_le_last _)
      have hreleased : D.releasedAt s.time.now setBack = true :=
        LinkTime.releasedAt_iff.mpr (.inr ⟨hback, hlast, by rw [hlast]; exact LinkTime.before_eq_false_iff.mp hreached⟩)
      rw [hexec, if_neg hnot, if_pos hreleased]
    · have hnot : ¬D.releasedAt s.time.now setBack = true := by
        rw [LinkTime.releasedAt_iff, ← LinkTime.before_iff, hahead]
        rintro (h | ⟨hback, hlast, hreached⟩)
        · cases h
        · obtain h | h | h := hkept
          · exact h hlast
          · rw [hback] at h; cases h
          · rw [LinkTime.before_iff] at h
            rw [hlast] at hreached
            exact absurd hreached (Nat.not_le.mpr h)
      rw [hexec, if_neg (by rw [hahead]; nofun), if_neg hnot]
  · refine ⟨s.watched old new, rfl, fun q => State.watched_rxQueue old new q, fun u => ?_, ?_⟩
    · rw [State.watched_txQueue]
      refine congrArg (fun f => { s.txQueue u with entries := (s.txQueue u).entries.map f }) (funext fun e => ?_)
      cases hlaunch : e.launch with
      | none =>
        rw [TxEntry.timeChange_of_immediate hlaunch]
        simp only [Bool.or_false]
        rw [← hlaunch]
      | some T =>
        rw [TxEntry.timeChange_of_timed hlaunch]
        simp only
        rw [hlaunch]
    intro passes releases
    have hconfig (u : TxQueueId) : ((s.watched old new).txQueue u).config = (s.txQueue u).config := by
      rw [State.watched_txQueue]; rfl
    refine ⟨fun t setBack e rest T hwaiting hentries hlaunch => ⟨fun hpasses => ?_, fun hreleases => ?_⟩, fun hnone => ?_⟩
    · rw [State.timeChange_eq, State.deadlineChange_of_passes (s := s.watched old new) hwaiting hentries hlaunch
        (by rw [hconfig]; exact LinkTime.passedBy_eq_true.mpr hpasses), hdropped _ t e rest hentries]
    · obtain ⟨hback, hlast, hahead, hreached⟩ := hreleases
      have hlast : T.addTicks (s.txQueue t).config.tolerance = .last := hlast
      rw [State.timeChange_eq, State.deadlineChange_of_releases (s := s.watched old new) hwaiting hentries hlaunch
        (by rw [hconfig, hlast, LinkTime.last_not_passed])
        (by rw [hconfig]; exact LinkTime.releasedBy_eq_true.mpr (.inr ⟨hback, hlast, hahead, hreached⟩))]
    · rw [State.timeChange_eq, State.deadlineChange_of_ahead]
      intro u setBack d hwaiting hd
      obtain ⟨e, hhead, hdeadline⟩ := Option.bind_eq_some_iff.mp hd
      obtain ⟨rest, hentries⟩ := List.head?_eq_some_iff.mp hhead
      obtain ⟨T, hlaunch, hT⟩ := Option.map_eq_some_iff.mp hdeadline
      rw [hconfig] at hT
      obtain ⟨hnot, hkept⟩ := hnone u setBack e rest T hwaiting hentries hlaunch
      rw [← Bool.not_eq_true, LinkTime.releasedBy_eq_true, ← hT]
      rintro (hpassed | ⟨hback, hlast, hahead, hreached⟩)
      · exact hnot (LinkTime.passedBy_eq_true.mp hpassed)
      · exact hkept ⟨hback, hlast, hahead, hreached⟩

end Sys2Proof.Machine
end


section
/-! Proofs about the line pins: LTRDY, which offers the line and accepts bytes, and LTABT, which ends an attempt (R136,
R140 to R144; log 14). -/

namespace Sys2Proof.Machine

variable {s x : State} {t : TxQueueId} {a : Attempt} {e : TxEntry} {rest : List TxEntry}

/-! ### LTRDY in WAITING_LINE (R136) -/

theorem exec_ltrdy_of_idle (hreset : s.inReset = false) (hidle : s.txf.state = .idle) : exec .ltrdy s = .next s := by
  change execLtrdy s = _
  simp only [execLtrdy, State.unlessReset_of_released _ hreset, hidle]

theorem exec_ltrdy_of_waiting (hreset : s.inReset = false) {armed setBack : Bool}
    (hwaiting : s.txf.state = .waitingLine t armed setBack) (hentries : (s.txQueue t).entries = e :: rest) :
    exec .ltrdy s = .next (s.beginAttempt t e).afterTransmit := by
  change execLtrdy s = _
  simp only [execLtrdy, State.unlessReset_of_released _ hreset, hwaiting, hentries]

theorem State.setHead_of_cons (hentries : (s.txQueue t).entries = e :: rest) (e' : TxEntry) :
    s.setHead t e' = s.setTxQueue t { s.txQueue t with entries := e' :: rest } := by
  rw [State.setHead, hentries, List.tail_cons]

/-- A head written back as it is changes nothing. -/
theorem State.setHead_self (hentries : (s.txQueue t).entries = e :: rest) : s.setHead t e = s := by
  rw [State.setHead_of_cons hentries, ← hentries]
  exact State.setTxQueue_self

theorem State.select_of_sending (h : x.txf.state = .sending a) : x.select = x :=
  x.select_of_none (x.selects_of_busy (by rw [h]; nofun))

theorem State.completeTxFlush_txf : x.completeTxFlush.txf = x.txf := by
  simp

/-- While an attempt runs, the completion of a flush is all that can follow. -/
theorem State.afterTransmit_of_sending (h : x.txf.state = .sending a) : x.afterTransmit = x.completeTxFlush := by
  rw [State.afterTransmit, State.select_of_sending (a := a) (by rw [State.completeTxFlush_txf, h])]

/-! ### LTRDY in SENDING (R140, R141) -/

section

variable (hreset : s.inReset = false) (hsending : s.txf.state = .sending a) (hcut : a.cut = false)
  (hentries : (s.txQueue a.queue).entries = e :: rest)
include hreset hsending hcut hentries

theorem exec_ltrdy_of_sending : exec .ltrdy s = .next (s.acceptByte a e) := by
  change execLtrdy s = _
  simp only [execLtrdy, State.unlessReset_of_released _ hreset, hsending, hcut, hentries, Bool.false_eq_true, if_false]

theorem exec_ltrdy_first (hfirst : a.position = 1) : exec .ltrdy s = .next
    ((s.setTxQueue a.queue
        { s.txQueue a.queue with entries := e.accepted 1 s.time.stamp :: rest }).setTxFramer
      (.sending { a with position := 2, firstAccepted := true,
                         crc := crcByte a.crc ((e.accepted 1 s.time.stamp).byteAt 1 a.crc) })) := by
  have hheader : a.position ≤ 4 + e.length.toNat := by omega
  have hmore : a.position < expectedTotal e.length := by rw [expectedTotal]; omega
  rw [exec_ltrdy_of_sending hreset hsending hcut hentries, State.acceptByte,
    if_pos hmore, if_pos hheader, State.setHead_of_cons hentries, hfirst, beq_self_eq_true, Bool.or_true]

/-- After the first byte, an acceptance moves on by one position; header and payload enter the CRC register. -/
theorem exec_ltrdy_next (hlate : 1 < a.position) (hmore : a.position < expectedTotal e.length) : exec .ltrdy s = .next
    (s.setTxFramer (.sending { a with
      position := a.position + 1
      crc := if a.position ≤ 4 + e.length.toNat then crcByte a.crc (e.byteAt a.position a.crc) else a.crc })) := by
  have haccepted : e.accepted a.position s.time.stamp = e := if_neg (by omega)
  have hnot : (a.firstAccepted || a.position == 1) = a.firstAccepted := by
    rw [show (a.position == 1) = false from beq_eq_false_iff_ne.mpr (by omega), Bool.or_false]
  rw [exec_ltrdy_of_sending hreset hsending hcut hentries, State.acceptByte,
    if_pos hmore, haccepted, State.setHead_self hentries, hnot]

/-- The last acceptance advances the sequence table and finishes the entry (R141). -/
theorem exec_ltrdy_last (hlast : a.position = 6 + e.length.toNat) : exec .ltrdy s = .next
    ((s.setTxSequence e.channel (s.txSequenceOf e.channel + 1)).finishEntry a.queue
      (e.completionResult (s.txQueue a.queue).config)).afterTransmit := by
  have haccepted : e.accepted a.position s.time.stamp = e := if_neg (by omega)
  have hend : ¬a.position < expectedTotal e.length := by rw [expectedTotal]; omega
  rw [exec_ltrdy_of_sending hreset hsending hcut hentries, State.acceptByte,
    if_neg hend, haccepted, State.setHead_self hentries]
  rfl

end

/-- Settles O48: by the state of the framer, and in SENDING by the position. -/
theorem ltrdyOffersAndAccepts : Obligations.LtrdyOffersAndAccepts := by
  intro s hreset
  refine ⟨exec_ltrdy_of_idle hreset, fun t armed setBack e rest hwaiting hentries => ?_,
    fun a e rest hsending hcut hentries => ?_⟩
  · intro begun framer
    have hbegun : s.beginAttempt t e = (s.setTxQueue t begun).setTxFramer framer := by
      rw [State.beginAttempt, State.setHead_of_cons hentries]
      simp only [begun]
      cases e.sequenceUsed <;> rfl
    have hexec := exec_ltrdy_of_waiting hreset hwaiting hentries
    rw [hbegun] at hexec
    refine ⟨hexec, fun hquiet => ?_, fun hrunning hone => ?_⟩
    · rw [hexec, State.afterTransmit_of_noTxFlush (s := (s.setTxQueue t begun).setTxFramer framer) hquiet,
        State.select_of_sending rfl]
    · have hqueue : ((s.setTxQueue t begun).setTxFramer framer).txQueue t = begun := State.txQueue_setTxQueue_self _
      have hdone : ((s.setTxQueue t begun).setTxFramer framer).flushDone t = true := by
        refine State.flushDone_iff.mpr (.inr ⟨?_, _, rfl, rfl⟩)
        rw [hqueue]
        exact congrArg (·.length + 1) hone
      rw [hexec, State.afterTransmit_of_sending rfl, State.completeTxFlush_of_done (s := (s.setTxQueue t begun).setTxFramer framer) hrunning hdone, hqueue]
      exact congrArg (fun y : State => Host.Outcome.next (y.setTxFramer framer).completeLong)
        (State.setTxQueue_setTxQueue t begun _)
  · intro stamped
    refine ⟨exec_ltrdy_first hreset hsending hcut hentries, fun hlate hheader => ?_, fun hcrc => ?_,
      fun hlast result hresult => ?_⟩
    · rw [exec_ltrdy_next hreset hsending hcut hentries hlate (by rw [expectedTotal]; omega), if_pos hheader]
    · rw [exec_ltrdy_next hreset hsending hcut hentries (by omega) (by rw [expectedTotal]; omega), if_neg (by omega)]
    · intro finished
      have hexec := exec_ltrdy_last hreset hsending hcut hentries hlast
      have hcompletes : e.completionResult (s.txQueue a.queue).config = result := by
        rw [hresult, TxEntry.completionResult, TxEntry.deadline]
        cases e.launch <;> cases e.startStamp <;> rfl
      rw [hcompletes] at hexec
      have hfinished : (s.setTxSequence e.channel (s.txSequenceOf e.channel + 1)).finishEntry a.queue result =
          finished :=
        State.finishEntry_of_cons (s := s.setTxSequence e.channel (s.txSequenceOf e.channel + 1)) hentries result
      refine ⟨by rw [hexec, hfinished], fun hquiet hnothing => ?_⟩
      rw [hexec, State.finishEntry_afterTransmit_eq_self (s := s.setTxSequence e.channel _) hentries hquiet hnothing,
        hfinished]

/-! ### LTABT (R142 to R144) -/

theorem exec_ltabt_of_not_sending (hreset : s.inReset = false) (hnot : ∀ a, s.txf.state ≠ .sending a) :
    exec .ltabt s = .next s := by
  change execLtabt s = _
  simp only [execLtabt, State.unlessReset_of_released _ hreset]
  cases hstate : s.txf.state with
  | idle | waitingLine => rfl
  | sending a => exact absurd hstate (hnot a)

section

variable (hreset : s.inReset = false) (hsending : s.txf.state = .sending a) (hcut : a.cut = false)
  (hentries : (s.txQueue a.queue).entries = e :: rest)
include hreset hsending hcut hentries

theorem exec_ltabt_of_sending : exec .ltabt s = .next
    (if e.mayRetry (s.txQueue a.queue).config s.time.now then (s.retryEntry a.queue).afterTransmit
     else (s.finishEntry a.queue .aborted).afterTransmit) := by
  change execLtabt s = _
  simp only [execLtabt, State.unlessReset_of_released _ hreset, hsending, hcut, hentries, Bool.false_eq_true, if_false]

end

/-- The entry may still go: it is immediate, is sent late, or has not passed its deadline (R142). -/
def TxEntry.MayGo (e : TxEntry) (g : TxConfig) (now : LinkTime) : Prop :=
  e.launch = none ∨ g.late = .sendLate ∨ ∃ T, e.launch = some T ∧ (T.addTicks g.tolerance).before now = false

theorem TxEntry.mayRetry_iff {g : TxConfig} {now : LinkTime} :
    e.mayRetry g now = true ↔ e.attempts ≤ g.retryLimit ∧ e.MayGo g now := by
  rw [TxEntry.mayRetry, TxEntry.MayGo, Bool.and_eq_true, decide_eq_true_iff]
  refine and_congr_right fun _ => ?_
  cases hlaunch : e.launch with
  | none => simp
  | some T => simp [TxEntry.lateAt_of_timed hlaunch]

/-- An entry that may still go waits again, with its watcher armed if it is timed under DROP_LATE (R133, R142). -/
theorem TxEntry.MayGo.waits {g : TxConfig} {now : LinkTime} (h : e.MayGo g now) :
    (e.armsDeadline g && e.lateAt g now) = false := by
  obtain hnone | hsend | ⟨T, hlaunch, hahead⟩ := h
  · simp [TxEntry.armsDeadline, hnone]
  · simp [TxEntry.armsDeadline, hsend]
  · rw [TxEntry.lateAt_of_timed hlaunch, hahead, Bool.and_false]

/-- Settles O49: a retry where the entry may still go, and ABORTED otherwise. -/
theorem ltabtRetriesOrAborts : Obligations.LtabtRetriesOrAborts := by
  intro s hreset
  refine ⟨fun hidle => exec_ltabt_of_not_sending hreset (by rw [hidle]; nofun),
    fun t armed setBack hwaiting => exec_ltabt_of_not_sending hreset (by rw [hwaiting]; nofun),
    fun a e rest hsending hcut hentries => ?_⟩
  intro g mayGo again aborted
  have hexec := exec_ltabt_of_sending hreset hsending hcut hentries
  have hmay : e.MayGo g s.time.now ↔ mayGo := Iff.rfl
  refine ⟨fun hlimit hgo => ?_, fun hends => ?_⟩
  · rw [if_pos (TxEntry.mayRetry_iff.mpr ⟨hlimit, hmay.mpr hgo⟩)] at hexec
    have hon (hline : s.txf.lineTx = true) : s.retryEntry a.queue = again := by
      rw [State.retryEntry, if_pos hline, State.enterWaiting_of_waits hentries (hmay.mpr hgo).waits]
      have harms : e.armsDeadline g = (e.launch.isSome && decide (g.late = .dropLate)) := by
        rw [TxEntry.armsDeadline]
        cases g.late <;> rfl
      exact congrArg (fun armed => s.setTxFramer (.waitingLine a.queue armed false)) harms
    have hoff (hline : s.txf.lineTx = false) : s.retryEntry a.queue = s.setTxFramer .idle := by
      rw [State.retryEntry, if_neg (by rw [hline]; nofun)]
    refine ⟨fun hline => by rw [hexec, hon hline], fun hline => by rw [hexec, hoff hline], fun hquiet =>
      ⟨fun hline => ?_, fun hline => ?_⟩⟩
    · rw [hexec, hon hline, State.afterTransmit_of_noTxFlush (s := again) hquiet,
        again.select_of_none (again.selects_of_busy nofun)]
    · rw [hexec, hoff hline, State.afterTransmit_of_noTxFlush (s := s.setTxFramer .idle) hquiet,
        (s.setTxFramer .idle).select_of_none (State.selects_of_off _ hline)]
  · rw [if_neg (fun h => by
      obtain ⟨hlimit, hgo⟩ := TxEntry.mayRetry_iff.mp h
      exact hends.elim (Nat.not_lt.mpr hlimit) (absurd hgo))] at hexec
    have haborted : s.finishEntry a.queue .aborted = aborted := State.finishEntry_of_cons hentries _
    refine ⟨by rw [hexec, haborted], fun hquiet hnothing => ?_⟩
    rw [hexec, State.finishEntry_afterTransmit_eq_self hentries hquiet hnothing, haborted]

end Sys2Proof.Machine
end


section
/-! Proofs about SOFT_RESET: what its acceptance leaves in every block, its removals, the end of a cut, and its completion
(R95, R128, R147, R162 to R164; log 13). -/

namespace Sys2Proof.Machine

variable {s x : State} {t : TxQueueId} {e : TxEntry} {rest : List TxEntry}

/-! ### What returns to the pool at the acceptance (R162; log 13) -/

/-- The pool with cells and descriptors returned to it. -/
def Pool.returned (p : Pool) (cells descs : Nat) : Pool :=
  { p with freeCells := p.freeCells + cells, freeDescs := p.freeDescs + descs }

theorem State.returnFilling_pool :
    s.returnFilling.pool = s.pool.returned (s.fillingCells.getD 0) (if s.fillingCells.isSome then 1 else 0) := by
  unfold State.returnFilling
  cases s.fillingCells <;> rfl

theorem State.softResetFramer_pool :
    s.softResetFramer.pool = s.pool.returned (s.fillingCells.getD 0) (if s.fillingCells.isSome then 1 else 0) := by
  have hnone (h : ∀ p, s.rxf.state ≠ .body p) : s.fillingCells = none := by
    unfold State.fillingCells
    split
    next p hbody => exact absurd hbody (h p)
    next => rfl
  unfold State.softResetFramer
  split
  next hstate => rw [hnone fun p hbody => by rw [hstate] at hbody; cases hbody]; rfl
  next hstate => rw [hnone fun p hbody => by rw [hstate] at hbody; cases hbody]; rfl
  next => rw [State.setRxFramer_pool, State.returnFilling_pool]
  next => rw [State.setRxFramer_pool, State.returnFilling_pool]

theorem State.abandonStaging_pool : s.abandonStaging.pool =
    s.pool.returned ((s.staging.record.map StagingRecord.cells).getD 0) (if s.staging.record.isSome then 1 else 0) := by
  unfold State.abandonStaging
  cases s.staging.record <;> rfl

theorem State.softResetBlocks_pool : s.softResetBlocks.pool =
    (s.pool.returned (s.fillingCells.getD 0) (if s.fillingCells.isSome then 1 else 0)).returned
      ((s.staging.record.map StagingRecord.cells).getD 0) (if s.staging.record.isSome then 1 else 0) := by
  have hpool := State.softResetFramer_pool (s := s.softResetUnit.clearEvents)
  have hstaging : s.softResetUnit.clearEvents.softResetFramer.staging = s.staging := by
    simp [State.softResetUnit, State.clearEvents]
  have hblocks := State.abandonStaging_pool
    (s := s.softResetUnit.clearEvents.softResetFramer.closeWindow.softResetRxQueues)
  refine hblocks.trans ?_
  change s.softResetUnit.clearEvents.softResetFramer.pool.returned
    ((s.softResetUnit.clearEvents.softResetFramer.staging.record.map _).getD 0)
    (if s.softResetUnit.clearEvents.softResetFramer.staging.record.isSome then 1 else 0) = _
  rw [hpool, hstaging]
  rfl

theorem State.abandonStaging_staging : s.abandonStaging.staging = { s.staging with record := none } := by
  unfold State.abandonStaging
  split
  next hclosed => rw [← hclosed]
  next => rfl

theorem State.softResetBlocks_staging : s.softResetBlocks.staging = { s.staging with record := none } := by
  have hstaging : s.softResetUnit.clearEvents.softResetFramer.staging = s.staging := by
    simp [State.softResetUnit, State.clearEvents]
  refine (State.abandonStaging_staging
    (s := s.softResetUnit.clearEvents.softResetFramer.closeWindow.softResetRxQueues)).trans ?_
  rw [← hstaging]
  rfl

/-! ### The two framers at the acceptance (R51, R147) -/

/-- The receive framer after the acceptance: a packet is passed over, HUNT and DISCARD stay (R51). -/
def RxFramerState.abandoned : RxFramerState → RxFramerState
  | .hunt => .hunt
  | _ => .discard

theorem State.softResetFramer_rxf : s.softResetFramer.rxf = { s.rxf with state := s.rxf.state.abandoned } := by
  unfold State.softResetFramer
  split
  next hstate => rw [hstate, RxFramerState.abandoned, ← hstate]
  next hstate => rw [hstate, RxFramerState.abandoned, ← hstate]; simp
  next hstate => rw [hstate]; simp [State.setRxFramer, RxFramerState.abandoned]
  next hstate => rw [hstate]; simp [State.setRxFramer, RxFramerState.abandoned]

theorem State.softResetBlocks_rxf : s.softResetBlocks.rxf = { s.rxf with state := s.rxf.state.abandoned } := by
  refine Eq.trans ?_ (State.softResetFramer_rxf (s := s.softResetUnit.clearEvents))
  simp [State.softResetBlocks, State.softResetTxFlags, State.softResetRxQueues]

/-- The transmit framer after the acceptance: an entry in SENDING is cut, else the framer is IDLE (R147; log 13). -/
def TxFramerState.afterSoftReset : TxFramerState → TxFramerState
  | .sending a => .sending { a with cut := true }
  | .idle | .waitingLine _ _ _ => .idle

/-- The entry that waits for the line, which the acceptance returns (log 13). -/
def State.waitingEntry (s : State) : Option TxEntry :=
  match s.txf.state with
  | .waitingLine u _ _ => (s.txQueue u).entries.head?
  | _ => none

/-- What a queue keeps at the acceptance: all but a head that waits for the line. -/
def State.entriesKept (s : State) (u : TxQueueId) : List TxEntry :=
  if s.headWaiting u then (s.txQueue u).entries.tail else (s.txQueue u).entries

theorem State.removeEntry_of_none {place : Nat} (hentry : (s.txQueue t).entries[place]? = none) :
    s.removeEntry t place = s := by
  simp only [State.removeEntry, hentry]

theorem State.softResetTransmit_txf : s.softResetTransmit.txf = { s.txf with state := s.txf.state.afterSoftReset } := by
  unfold State.softResetTransmit
  split
  next hidle => rw [hidle, TxFramerState.afterSoftReset, ← hidle]
  next hwaiting => rw [hwaiting]; simp [State.setTxFramer, TxFramerState.afterSoftReset]
  next hsending => rw [hsending]; rfl

theorem State.removeEntry_pool_head : (s.removeEntry t 0).pool = s.pool.returned
    (((s.txQueue t).entries.head?.map TxEntry.cells).getD 0) (if (s.txQueue t).entries.head?.isSome then 1 else 0) := by
  cases hentries : (s.txQueue t).entries with
  | nil => rw [State.removeEntry_of_none (by rw [hentries]; rfl)]; rfl
  | cons e rest => rw [State.removeEntry_of_some (e := e) (by rw [hentries]; rfl)]; rfl

theorem State.softResetTransmit_pool : s.softResetTransmit.pool = s.pool.returned
    ((s.waitingEntry.map TxEntry.cells).getD 0) (if s.waitingEntry.isSome then 1 else 0) := by
  unfold State.softResetTransmit State.waitingEntry
  cases s.txf.state with
  | idle => rfl
  | sending a => rfl
  | waitingLine t armed setBack => exact State.removeEntry_pool_head

theorem State.softResetTransmit_txQueue (u : TxQueueId) :
    s.softResetTransmit.txQueue u = { s.txQueue u with entries := s.entriesKept u } := by
  unfold State.softResetTransmit State.entriesKept State.headWaiting
  cases s.txf.state with
  | idle => rfl
  | sending a => rfl
  | waitingLine t armed setBack =>
    refine (State.removeEntry_txQueue ..).trans ?_
    by_cases hu : u = t
    · rw [if_pos hu, if_pos (beq_iff_eq.mpr hu.symm), List.eraseIdx_zero, hu]
    · rw [if_neg hu, if_neg (mt beq_iff_eq.mp (Ne.symm hu))]

/-! ### The completion (R164) -/

theorem State.poolEmpty_iff : s.poolEmpty = true ↔ s.pool.freeCells = 1024 ∧ s.pool.freeDescs = 512 := by
  rw [State.poolEmpty, Bool.and_eq_true, decide_eq_true_iff, decide_eq_true_iff]
  rfl

section

variable (hrunning : x.cmd.running = some .softReset)
include hrunning

/-- While SOFT_RESET runs on, nothing follows a return. -/
theorem State.softReset_goes_on (hheld : ¬x.poolEmpty = true) : x.completeSoftReset.afterTransmit = x := by
  have hsame : x.completeSoftReset = x := if_neg (by rw [Bool.and_eq_true]; exact fun h => hheld h.2)
  rw [hsame]
  exact State.afterTransmit_of_quiet _ (fun t => by rw [hrunning]; nofun)
    (State.selects_eq_none_iff.mpr (.inr (.inr (.inl hrunning))))

/-- The return that makes everything free completes the command, and there is no entry left to select. -/
theorem State.softReset_completes (hfree : x.poolEmpty = true) (hempty : ∀ u, (x.txQueue u).entries = []) :
    x.completeSoftReset.afterTransmit = x.completeLong := by
  have hdone : x.completeSoftReset = x.completeLong :=
    if_pos (by rw [Bool.and_eq_true]; exact ⟨State.softResetting_iff.mpr hrunning, hfree⟩)
  rw [hdone]
  exact State.afterTransmit_of_quiet _ (fun _ => nofun)
    (State.selects_eq_none_iff.mpr (.inr (.inr (.inr fun u => TxQueue.dueHead_eq_none (.inl (hempty u))))))

end

/-- A command whose change ends with the completion of SOFT_RESET, by whether everything is then free. -/
theorem exec_softReset_return {c : Instr} {full : Prop} (hrunning : x.cmd.running = some .softReset)
    (hexec : exec c s = .next x.completeSoftReset.afterTransmit) (hfull : x.poolEmpty = true ↔ full) :
    (¬full → exec c s = .next x) ∧
      (full → (∀ u, (x.txQueue u).entries = []) → exec c s = .next x.completeLong) :=
  ⟨fun hheld => by rw [hexec, State.softReset_goes_on hrunning (mt hfull.mp hheld)],
    fun hfree hempty => by rw [hexec, State.softReset_completes hrunning (hfull.mpr hfree) hempty]⟩

/-! ### The acceptance (R162) -/

/-- Every block after the one change of the acceptance, before the completion that may follow. -/
def State.softResetTaken (s : State) : State := s.softResetBlocks.softResetTransmit.clearReports

theorem exec_softReset_of_takes (htakes : s.takesCommands) :
    exec .softReset s = .next ((s.acceptCommand 0x60).softResetTaken.completeSoftReset.afterTransmit) := by
  change execSoftReset s = _
  simp only [execSoftReset, State.unlessReset_of_released _ htakes.1, State.busy, htakes.2]
  rfl

theorem State.softResetTaken_frame :
    s.softResetTaken.time = s.time ∧ s.softResetTaken.channels = s.channels ∧
    s.softResetTaken.txSequence = s.txSequence ∧ s.softResetTaken.host = s.host ∧
    s.softResetTaken.window = { s.window with record := none } ∧
    s.softResetTaken.staging = { s.staging with record := none } ∧
    s.softResetTaken.reports = { s.reports with list := [] } ∧
    s.softResetTaken.rxq = s.rxq.map RxQueue.softReset ∧
    s.softResetTaken.rxf = { s.rxf with state := s.rxf.state.abandoned } ∧
    s.softResetTaken.txf = { s.txf with state := s.txf.state.afterSoftReset } ∧
    s.softResetTaken.cmd = { s.cmd with running := some .softReset, refused := false } ∧
    s.softResetTaken.irq = { s.irq with status := 0 } := by
  have hreports : s.softResetBlocks.softResetTransmit.reports = s.reports := by simp
  have hstaging : s.softResetBlocks.softResetTransmit.staging = { s.staging with record := none } := by
    rw [← State.softResetBlocks_staging]; simp
  have hrxf : s.softResetBlocks.softResetTransmit.rxf = { s.rxf with state := s.rxf.state.abandoned } := by
    rw [← State.softResetBlocks_rxf]; simp
  have htxf : s.softResetBlocks.softResetTransmit.txf = { s.txf with state := s.txf.state.afterSoftReset } := by
    rw [State.softResetTransmit_txf]; simp
  refine ⟨?_, ?_, ?_, ?_, ?_, hstaging, congrArg (fun r : ReportQueue => { r with list := [] }) hreports, ?_, hrxf, htxf,
    ?_, ?_⟩ <;> simp [State.softResetTaken, State.clearReports]

theorem State.headWaiting_congr (h : x.txf = s.txf) (u : TxQueueId) : x.headWaiting u = s.headWaiting u := by
  unfold State.headWaiting
  rw [h]

theorem State.softResetTaken_txQueue (u : TxQueueId) :
    s.softResetTaken.txQueue u = { s.txQueue u with flush := false, entries := s.entriesKept u } := by
  refine (State.softResetTransmit_txQueue (s := s.softResetBlocks) u).trans ?_
  have hkept : s.softResetBlocks.entriesKept u = s.entriesKept u := by
    rw [State.entriesKept, State.entriesKept, State.headWaiting_congr (s := s) (by simp), State.softResetBlocks_txQueue]
  rw [hkept, State.softResetBlocks_txQueue]

/-- What is free once everything that returns at the acceptance has returned (log 13). -/
def State.cellsAfterReset (s : State) : Nat :=
  s.pool.freeCells + s.fillingCells.getD 0 + (s.staging.record.map StagingRecord.cells).getD 0 +
    (s.waitingEntry.map TxEntry.cells).getD 0

def State.descsAfterReset (s : State) : Nat :=
  s.pool.freeDescs + (if s.fillingCells.isSome then 1 else 0) + (if s.staging.record.isSome then 1 else 0) +
    (if s.waitingEntry.isSome then 1 else 0)

theorem State.softResetTaken_pool : s.softResetTaken.pool =
    { s.pool with freeCells := s.cellsAfterReset, freeDescs := s.descsAfterReset } := by
  have hwaiting : s.softResetBlocks.waitingEntry = s.waitingEntry := by
    simp only [State.waitingEntry, State.softResetBlocks_txQueue, State.softResetBlocks_frame]
  refine (State.softResetTransmit_pool (s := s.softResetBlocks)).trans ?_
  rw [State.softResetBlocks_pool, hwaiting]
  rfl

/-- Settles O50: the blocks of the one change, and the completion where it leaves nothing held. -/
theorem softResetAtItsAcceptance : Obligations.SoftResetAtItsAcceptance := by
  intro s htakes waiting cells descs left completes hempties
  have htaken := State.softResetTaken_frame (s := s.acceptCommand 0x60)
  obtain ⟨htime, hchannels, hsequence, hhost, hwindow, hstaging, hreports, hrxq, hrxf, htxf, hcmd, hirq⟩ := htaken
  have hqueues := State.softResetTaken_txQueue (s := s.acceptCommand 0x60)
  have hpool : (s.acceptCommand 0x60).softResetTaken.pool = { s.pool with freeCells := cells, freeDescs := descs } :=
    State.softResetTaken_pool
  have hrunning : (s.acceptCommand 0x60).softResetTaken.cmd.running = some .softReset := by rw [hcmd]
  have hfree : (s.acceptCommand 0x60).softResetTaken.poolEmpty = true ↔ completes := by
    rw [State.poolEmpty_iff, hpool]
  have hqueue (q : RxQueueId) : (s.acceptCommand 0x60).softResetTaken.rxQueue q = (s.rxQueue q).softReset :=
    (State.rxQueue_congr (t := { s with rxq := s.rxq.map RxQueue.softReset }) hrxq q).trans (State.rxQueue_map ..)
  have hexec := exec_softReset_of_takes htakes
  have hrx := hrxf.trans (b := { s.rxf with state := s.rxf.state.abandoned }) rfl
  have htx := htxf.trans (b := { s.txf with state := s.txf.state.afterSoftReset }) rfl
  by_cases hdone : completes
  · rw [State.softReset_completes hrunning (hfree.mpr hdone) fun u => by
      rw [hqueues]; exact hempties hdone u] at hexec
    refine ⟨_, hexec, hpool, fun h => absurd hdone h, fun _ => ⟨?_, ?_⟩, htime, hchannels, hsequence, hhost, hwindow,
      hstaging, hreports, hqueue, hrx.trans ?_, htx.trans ?_, hqueues⟩
    · exact congrArg (fun c : CommandUnit => { c with running := none, result := .ok }) hcmd
    · refine (congrArg (fun i : InterruptUnit => { i with status := i.status ||| 0x001 }) hirq).trans ?_
      simp only [State.acceptCommand_irq]
      rfl
    · cases s.rxf.state <;> rfl
    · cases s.txf.state <;> rfl
  · rw [State.softReset_goes_on hrunning (mt hfree.mp hdone)] at hexec
    refine ⟨_, hexec, hpool, fun _ => ⟨hcmd, hirq⟩, fun h => absurd h hdone, htime, hchannels, hsequence, hhost, hwindow,
      hstaging, hreports, hqueue, hrx.trans ?_, htx.trans ?_, hqueues⟩
    · cases s.rxf.state <;> rfl
    · cases s.txf.state <;> rfl

/-! ### The removals and the end of a cut (R128, R147, R163, R164) -/

theorem exec_softResetRxRemoval_of_cons (hreset : s.inReset = false) (hsoft : s.softResetting = true) {q : RxQueueId}
    {rec : RxRecord} {rest : List RxRecord} (hrecords : (s.rxQueue q).records = rec :: rest) :
    exec (.softResetRxRemoval q) s = .next
      (((s.setRxQueue q { s.rxQueue q with records := rest }).returnHolder
        rec.cells).completeSoftReset.afterTransmit) := by
  change execSoftResetRxRemoval q s = _
  simp only [execSoftResetRxRemoval, State.unlessReset_of_released _ hreset, hsoft, hrecords, List.isEmpty_cons,
    Bool.not_false, Bool.and_self, if_true]
  rw [State.removeHeadRecord_of_cons hrecords]

theorem exec_softResetTxRemoval_of_entry (hreset : s.inReset = false) (hsoft : s.softResetting = true)
    (hnot : s.headWaiting t = false) (hentry : (s.txQueue t).entries[s.oldestNotSending t]? = some e) :
    exec (.softResetTxRemoval t) s = .next
      (((s.setTxQueue t { s.txQueue t with
        entries := (s.txQueue t).entries.eraseIdx (s.oldestNotSending t) }).returnHolder
          e.cells).completeSoftReset.afterTransmit) := by
  have hplace : s.oldestNotSending t < (s.txQueue t).entries.length := (List.getElem?_eq_some_iff.mp hentry).1
  have hdiscard : s.discardOldest t = (s.setTxQueue t { s.txQueue t with
      entries := (s.txQueue t).entries.eraseIdx (s.oldestNotSending t) }).returnHolder e.cells := by
    rw [State.discardOldest, hnot]
    exact State.removeEntry_of_some hentry
  change execSoftResetTxRemoval t s = _
  simp only [execSoftResetTxRemoval, State.unlessReset_of_released _ hreset, hsoft, decide_eq_true hplace,
    Bool.and_self, if_true]
  rw [hdiscard]

/-- Either line pin ends a cut (R147). -/
theorem exec_endCut (hreset : s.inReset = false) {a : Attempt} (hsending : s.txf.state = .sending a)
    (hcut : a.cut = true) (hentries : (s.txQueue a.queue).entries = e :: rest) {c : Instr} (hc : c = .ltrdy ∨ c = .ltabt) :
    exec c s = .next
      ((((s.setTxQueue a.queue { s.txQueue a.queue with entries := rest }).returnHolder e.cells).setTxFramer
        .idle).completeSoftReset.afterTransmit) := by
  have hend : s.endCut a.queue = (((s.setTxQueue a.queue { s.txQueue a.queue with entries := rest }).returnHolder
      e.cells).setTxFramer .idle).completeSoftReset := by
    rw [State.endCut, State.removeEntry_of_some (e := e) (by rw [hentries]; rfl), hentries]
    rfl
  rw [← hend]
  obtain rfl | rfl := hc
  · change execLtrdy s = _
    simp only [execLtrdy, State.unlessReset_of_released _ hreset, hsending, hcut, if_true]
  · change execLtabt s = _
    simp only [execLtabt, State.unlessReset_of_released _ hreset, hsending, hcut, if_true]

/-- With one queue left empty, and the others empty before, every queue is empty. -/
theorem State.entries_nil_of_set (hother : ∀ u, u ≠ t → (s.txQueue u).entries = []) {q : TxQueue} (hq : q.entries = [])
    (u : TxQueueId) : ((s.setTxQueue t q).txQueue u).entries = [] := by
  rw [State.txQueue_setTxQueue]
  split
  next => exact hq
  next hu => exact hother u hu

/-- Settles O51: each return, followed by the completion exactly when it makes everything free. -/
theorem softResetRemovalsAndCompletion : Obligations.SoftResetRemovalsAndCompletion := by
  refine ⟨fun s htakes => ?_, fun s hreset hrunning => ?_⟩
  · intro waiting hcells hdescs hleft
    obtain ⟨t, hexec, -, -, hdone, hrest⟩ := softResetAtItsAcceptance s htakes fun _ => hleft
    obtain ⟨hcmd, hirq⟩ := hdone ⟨hcells, hdescs⟩
    obtain ⟨-, -, -, -, -, -, -, hrx, -⟩ := hrest
    exact ⟨t, hexec, by rw [hcmd], by rw [hcmd], by rw [hcmd], by rw [hirq], fun q => by rw [hrx]⟩
  · intro full completed
    have hsoft : s.softResetting = true := State.softResetting_iff.mpr hrunning
    have hfull (y : State) (n : Nat) (hy : y.pool = s.pool) : (y.returnHolder n).poolEmpty = true ↔ full n := by
      rw [State.poolEmpty_iff, State.returnHolder, hy]
    refine ⟨fun q rec rest hrecords => ?_, fun u e rest hentries hnot => ?_, fun a h e rest hsending hentries => ?_,
      fun a e rest c hsending hcut hentries hc => ?_⟩
    · intro t
      exact exec_softReset_return (x := t) hrunning (exec_softResetRxRemoval_of_cons hreset hsoft hrecords)
        (hfull (s.setRxQueue q { s.rxQueue q with records := rest }) rec.cells rfl)
    · intro t
      rw [Ne, State.inFlightQueue_eq_iff, not_or] at hnot
      obtain ⟨hwaiting, hsending⟩ := hnot
      have hplace : s.oldestNotSending u = 0 := if_neg hsending
      have hexec := exec_softResetTxRemoval_of_entry (t := u) (e := e) hreset hsoft (Bool.eq_false_iff.mpr hwaiting)
        (by rw [hplace, hentries]; rfl)
      rw [hplace, hentries, List.eraseIdx_cons_zero] at hexec
      obtain ⟨hgoes, hends⟩ := exec_softReset_return (x := t) hrunning hexec
        (hfull (s.setTxQueue u { s.txQueue u with entries := rest }) e.cells rfl)
      exact ⟨hgoes, fun hfree hlast hother => hends hfree (State.entries_nil_of_set hother hlast)⟩
    · have hplace : s.oldestNotSending a.queue = 1 := if_pos (State.headSending_iff.mpr ⟨a, hsending, rfl⟩)
      have hexec := exec_softResetTxRemoval_of_entry (t := a.queue) (e := e) hreset hsoft
        (by rw [State.headWaiting, hsending]) (by rw [hplace, hentries]; rfl)
      rw [hplace, hentries] at hexec
      exact (exec_softReset_return
        (x := (s.setTxQueue a.queue { s.txQueue a.queue with entries := h :: rest }).returnHolder e.cells) hrunning hexec
        (hfull (s.setTxQueue a.queue { s.txQueue a.queue with entries := h :: rest }) e.cells rfl)).1
    · intro t
      obtain ⟨hgoes, hends⟩ := exec_softReset_return (x := t) hrunning (exec_endCut hreset hsending hcut hentries hc)
        (hfull (s.setTxQueue a.queue { s.txQueue a.queue with entries := rest }) e.cells rfl)
      exact ⟨hgoes, fun hfree hlast hother => hends hfree (State.entries_nil_of_set hother hlast)⟩

end Sys2Proof.Machine
end
